-- ==== Sys2Proof/Word.lean ====
section
/-! DEFINITION. The word types of the block (spec 00_scope.md R9, 30_encoding.md R84). -/

namespace Sys2Proof

/-- A register word: "every register is a 32-bit word" (R9). -/
abbrev Word := BitVec 32

/-- An operation word: "every operation is spelled as one 64-bit operation word" (R84). -/
abbrev OpWord := BitVec 64

end Sys2Proof
end

