-- ==== Sys2Proof/Config.lean ====
section
/-! DEFINITION. The construction-time configuration (spec 00_scope.md R7, 10_state.md R50), the configuration the
reset state is built from, and the free values (what the spec leaves unspecified while the block goes on). -/

namespace Sys2Proof

/-- A reset manager's cause value: an abstract type of the spec (R7, 92 D33). DESIGN CHOICE, safe (log 6): values are
told apart by a token that no operation reads. -/
structure ResetCause where
  token : Nat
  deriving DecidableEq, Repr

/-- The platform bus's byte order, `BUS_BYTE_ORDER` (R62). "No rule reads that parameter." -/
inductive ByteOrder where
  | little
  | big
  deriving DecidableEq, Repr

/-- The configuration of R7: "immutable, selected by a construction-time version id" (R50). DESIGN CHOICE, safe
(log 1): it is plain data carried by `State.cfg`, so a statement about every state is about every configuration. -/
structure Config where
  /-- the version tag; the fields below are the table it selects -/
  version        : Nat
  wakeupCount    : Nat
  resetCount     : Nat
  resetMask      : Word
  /-- `reset_dispatch`: entry `i` is the cause forwarded for hardware reset line `i` -/
  resetDispatch  : List ResetCause
  romCount       : Nat
  /-- the designated main instance: escalation triggers the fatal system shutdown -/
  main           : Bool
  /-- the optional fetch-hold-control flag -/
  fetchCtrl      : Bool
  swResetCause   : ResetCause
  maxResetLines  : Nat
  mmioSize       : Nat
  controlMask    : Word
  controlReset   : Word
  busByteOrder   : ByteOrder
  deriving DecidableEq, Repr

/-- Configuration TA of 95_test_vectors.md. DESIGN CHOICE, unsafe (log 1): the spec leaves every value open, and
`State.reset` needs one machine. The version tag, the tokens of the causes, `maxResetLines` and `busByteOrder`, which
TA does not list, are this model's. -/
def Config.testTA : Config where
  version       := 0
  wakeupCount   := 6
  resetCount    := 2
  resetMask     := 0x3#32
  resetDispatch := [⟨1⟩, ⟨2⟩]
  romCount      := 1
  main          := false
  fetchCtrl     := false
  swResetCause  := ⟨3⟩
  maxResetLines := 31
  mmioSize      := 0x80
  controlMask   := 0x1F1#32
  controlReset  := 0x180#32
  busByteOrder  := .little

/-- FREE VALUE (log 4): the token of `rst.cause` while `rst.domain = None`, "unspecified" (R42, 93 U10). -/
opaque Config.freeCauseToken : Nat → Nat

/-- FREE VALUE (log 3): whether the settle timer moves before the scheduler when both are enabled and nothing else is
delivered, "the choice of agent at each step is free" (R66, 93 U19). -/
opaque Config.freeTimerFirst : Nat → Bool

end Sys2Proof
end

