-- ==== Sys2Proof/Syntax.lean ====
section
/-! DEFINITION. The syntax of the block: its registers, ports and output lines, and ONE inductive of its 48
operations, a constructor for each row of spec/opcode_table.json (spec 30_encoding.md R80 to R89). -/

namespace Sys2Proof

/-- The seventeen registers of the register map, in its order (R80). -/
inductive Reg where
  | intrState
  | intrEnable
  | intrTest
  | alertTest
  | ctrlCfgRegwen
  | control
  | cfgCdcSync
  | wakeupEnRegwen
  | wakeupEn
  | wakeStatus
  | resetEnRegwen
  | resetEn
  | resetStatus
  | escalateResetStatus
  | wakeInfoCaptureDis
  | wakeInfo
  | faultStatus
  deriving DecidableEq, Repr

/-- The nine input ports, in the order of their port numbers (R82). -/
inductive Port where
  | romGood
  | romDone
  | wakeup
  | rstReq
  | swRstReq
  | lcRsp
  | otpRsp
  | escalate
  | holdFetch
  deriving DecidableEq, Repr

/-- The six output lines, in the order in which component reset deasserts them (R48, R83, R270). -/
inductive OutLine where
  | wakeIrq
  | alert
  | otpReq
  | lcReq
  | cpuEn
  | strap
  deriving DecidableEq, Repr

/-- Why a word spells no operation (R85, R86): each is a refusal, safe, since "these have no step". -/
inductive Rejection where
  /-- kind 6 or 7 -/
  | reservedKind
  /-- a bit that must be 0 is 1 -/
  | reservedBits
  /-- a bus access at an offset that is not a multiple of 4 (R61) -/
  | misaligned
  /-- a bus access at or above `MMIO_SIZE` (R73) -/
  | outsideWindow
  /-- a line delivery on a port number above 8 -/
  | noSuchPort
  deriving DecidableEq, Repr

/-- The 48 operations (R89), in the table's order. -/
inductive Instr where
  | readIntrState
  | writeIntrState (data : Word)
  | readIntrEnable
  | writeIntrEnable (data : Word)
  | readIntrTest
  | writeIntrTest (data : Word)
  | readAlertTest
  | writeAlertTest (data : Word)
  | readCtrlCfgRegwen
  | writeCtrlCfgRegwen (data : Word)
  | readControl
  | writeControl (data : Word)
  | readCfgCdcSync
  | writeCfgCdcSync (data : Word)
  | readWakeupEnRegwen
  | writeWakeupEnRegwen (data : Word)
  | readWakeupEn
  | writeWakeupEn (data : Word)
  | readWakeStatus
  | writeWakeStatus (data : Word)
  | readResetEnRegwen
  | writeResetEnRegwen (data : Word)
  | readResetEn
  | writeResetEn (data : Word)
  | readResetStatus
  | writeResetStatus (data : Word)
  | readEscalateResetStatus
  | writeEscalateResetStatus (data : Word)
  | readWakeInfoCaptureDis
  | writeWakeInfoCaptureDis (data : Word)
  | readWakeInfo
  | writeWakeInfo (data : Word)
  | readFaultStatus
  | writeFaultStatus (data : Word)
  | readUnmapped (offset : BitVec 16)
  | writeUnmapped (offset : BitVec 16) (data : Word)
  | lineRomGood (index : BitVec 8) (level : Bool)
  | lineRomDone (index : BitVec 8) (level : Bool)
  | lineWakeup (index : BitVec 8) (level : Bool)
  | lineRstReq (index : BitVec 8) (level : Bool)
  | lineSwRstReq (index : BitVec 8) (level : Bool)
  | lineLcRsp (index : BitVec 8) (level : Bool)
  | lineOtpRsp (index : BitVec 8) (level : Bool)
  | lineEscalate (index : BitVec 8) (level : Bool)
  | lineHoldFetch (index : BitVec 8) (level : Bool)
  | tick
  | timerExpire
  | reset
  deriving DecidableEq, Repr

end Sys2Proof
end

