-- ==== Sys2Proof/WellFormed.lean ====
section
/-! DEFINITION. Well-formedness: of a configuration (spec 00_scope.md R8) and of an operation (spec 20_memory.md R61,
R72, R73). -/

namespace Sys2Proof

/-- R8: the check a configuration passes, or no block is built from it. -/
def Config.wellFormed (c : Config) : Bool :=
  decide (c.resetCount ≤ c.maxResetLines) && decide (c.maxResetLines ≤ 31) &&
  decide (c.resetMask = BitVec.ofNat 32 (2 ^ c.resetCount - 1)) &&
  decide (c.resetCount ≤ c.resetDispatch.length) &&
  decide (c.romCount ≤ 8) && decide (c.wakeupCount ≤ 30) &&
  decide (c.controlReset &&& ~~~c.controlMask = 0#32) &&
  decide (0x44 ≤ c.mmioSize) && decide (c.mmioSize % 4 = 0)

/-- An offset of an unmapped access: "aligned, with `0x44 <= off < MMIO_SIZE`" (R140). -/
def unmappedOffset (c : Config) (offset : BitVec 16) : Bool :=
  decide (offset.toNat % 4 = 0) && decide (0x44 ≤ offset.toNat) && decide (offset.toNat < c.mmioSize)

/-- An operation's fields are what its word can spell. Only the two unmapped rows constrain a field. -/
def Instr.wellFormed (c : Config) : Instr → Bool
  | .readIntrState => true
  | .writeIntrState _ => true
  | .readIntrEnable => true
  | .writeIntrEnable _ => true
  | .readIntrTest => true
  | .writeIntrTest _ => true
  | .readAlertTest => true
  | .writeAlertTest _ => true
  | .readCtrlCfgRegwen => true
  | .writeCtrlCfgRegwen _ => true
  | .readControl => true
  | .writeControl _ => true
  | .readCfgCdcSync => true
  | .writeCfgCdcSync _ => true
  | .readWakeupEnRegwen => true
  | .writeWakeupEnRegwen _ => true
  | .readWakeupEn => true
  | .writeWakeupEn _ => true
  | .readWakeStatus => true
  | .writeWakeStatus _ => true
  | .readResetEnRegwen => true
  | .writeResetEnRegwen _ => true
  | .readResetEn => true
  | .writeResetEn _ => true
  | .readResetStatus => true
  | .writeResetStatus _ => true
  | .readEscalateResetStatus => true
  | .writeEscalateResetStatus _ => true
  | .readWakeInfoCaptureDis => true
  | .writeWakeInfoCaptureDis _ => true
  | .readWakeInfo => true
  | .writeWakeInfo _ => true
  | .readFaultStatus => true
  | .writeFaultStatus _ => true
  | .readUnmapped offset => unmappedOffset c offset
  | .writeUnmapped offset _ => unmappedOffset c offset
  | .lineRomGood _ _ => true
  | .lineRomDone _ _ => true
  | .lineWakeup _ _ => true
  | .lineRstReq _ _ => true
  | .lineSwRstReq _ _ => true
  | .lineLcRsp _ _ => true
  | .lineOtpRsp _ _ => true
  | .lineEscalate _ _ => true
  | .lineHoldFetch _ _ => true
  | .tick => true
  | .timerExpire => true
  | .reset => true

end Sys2Proof
end

