-- ==== Sys2Proof/Decode.lean ====
section
/-! DEFINITION. Decoding an operation word, total on all 64-bit words and rejecting by name, and the encoder
(spec 30_encoding.md R84, R85, R89). -/

namespace Sys2Proof

/-- Byte offset of a register (R80): `offset = 4 * k`. -/
def Reg.offset : Reg → BitVec 16
  | .intrState => 0x00#16
  | .intrEnable => 0x04#16
  | .intrTest => 0x08#16
  | .alertTest => 0x0C#16
  | .ctrlCfgRegwen => 0x10#16
  | .control => 0x14#16
  | .cfgCdcSync => 0x18#16
  | .wakeupEnRegwen => 0x1C#16
  | .wakeupEn => 0x20#16
  | .wakeStatus => 0x24#16
  | .resetEnRegwen => 0x28#16
  | .resetEn => 0x2C#16
  | .resetStatus => 0x30#16
  | .escalateResetStatus => 0x34#16
  | .wakeInfoCaptureDis => 0x38#16
  | .wakeInfo => 0x3C#16
  | .faultStatus => 0x40#16

/-- The register at word index `k` (R80), none above the last. -/
def Reg.atIndex : Nat → Option Reg
  | 0 => some .intrState
  | 1 => some .intrEnable
  | 2 => some .intrTest
  | 3 => some .alertTest
  | 4 => some .ctrlCfgRegwen
  | 5 => some .control
  | 6 => some .cfgCdcSync
  | 7 => some .wakeupEnRegwen
  | 8 => some .wakeupEn
  | 9 => some .wakeStatus
  | 10 => some .resetEnRegwen
  | 11 => some .resetEn
  | 12 => some .resetStatus
  | 13 => some .escalateResetStatus
  | 14 => some .wakeInfoCaptureDis
  | 15 => some .wakeInfo
  | 16 => some .faultStatus
  | _ => none

/-- The port numbers of R82. -/
def Port.number : Port → BitVec 8
  | .romGood => 0#8
  | .romDone => 1#8
  | .wakeup => 2#8
  | .rstReq => 3#8
  | .swRstReq => 4#8
  | .lcRsp => 5#8
  | .otpRsp => 6#8
  | .escalate => 7#8
  | .holdFetch => 8#8

/-- The port of a port number (R82), none above 8. -/
def Port.ofNumber : Nat → Option Port
  | 0 => some .romGood
  | 1 => some .romDone
  | 2 => some .wakeup
  | 3 => some .rstReq
  | 4 => some .swRstReq
  | 5 => some .lcRsp
  | 6 => some .otpRsp
  | 7 => some .escalate
  | 8 => some .holdFetch
  | _ => none

/-- The READ row of a register (R89). -/
def Reg.readInstr : Reg → Instr
  | .intrState => .readIntrState
  | .intrEnable => .readIntrEnable
  | .intrTest => .readIntrTest
  | .alertTest => .readAlertTest
  | .ctrlCfgRegwen => .readCtrlCfgRegwen
  | .control => .readControl
  | .cfgCdcSync => .readCfgCdcSync
  | .wakeupEnRegwen => .readWakeupEnRegwen
  | .wakeupEn => .readWakeupEn
  | .wakeStatus => .readWakeStatus
  | .resetEnRegwen => .readResetEnRegwen
  | .resetEn => .readResetEn
  | .resetStatus => .readResetStatus
  | .escalateResetStatus => .readEscalateResetStatus
  | .wakeInfoCaptureDis => .readWakeInfoCaptureDis
  | .wakeInfo => .readWakeInfo
  | .faultStatus => .readFaultStatus

/-- The WRITE row of a register (R89). -/
def Reg.writeInstr (data : Word) : Reg → Instr
  | .intrState => .writeIntrState data
  | .intrEnable => .writeIntrEnable data
  | .intrTest => .writeIntrTest data
  | .alertTest => .writeAlertTest data
  | .ctrlCfgRegwen => .writeCtrlCfgRegwen data
  | .control => .writeControl data
  | .cfgCdcSync => .writeCfgCdcSync data
  | .wakeupEnRegwen => .writeWakeupEnRegwen data
  | .wakeupEn => .writeWakeupEn data
  | .wakeStatus => .writeWakeStatus data
  | .resetEnRegwen => .writeResetEnRegwen data
  | .resetEn => .writeResetEn data
  | .resetStatus => .writeResetStatus data
  | .escalateResetStatus => .writeEscalateResetStatus data
  | .wakeInfoCaptureDis => .writeWakeInfoCaptureDis data
  | .wakeInfo => .writeWakeInfo data
  | .faultStatus => .writeFaultStatus data

/-- The LINE row of a port (R89). -/
def Port.lineInstr (index : BitVec 8) (level : Bool) : Port → Instr
  | .romGood => .lineRomGood index level
  | .romDone => .lineRomDone index level
  | .wakeup => .lineWakeup index level
  | .rstReq => .lineRstReq index level
  | .swRstReq => .lineSwRstReq index level
  | .lcRsp => .lineLcRsp index level
  | .otpRsp => .lineOtpRsp index level
  | .escalate => .lineEscalate index level
  | .holdFetch => .lineHoldFetch index level

/-! ## The fields of an operation word (R84) -/

def kindField (w : OpWord) : BitVec 3 := w.extractLsb' 61 3
def reservedField (w : OpWord) : BitVec 5 := w.extractLsb' 56 5
def portField (w : OpWord) : BitVec 8 := w.extractLsb' 48 8
def offsetField (w : OpWord) : BitVec 16 := w.extractLsb' 32 16
def indexField (w : OpWord) : BitVec 8 := w.extractLsb' 32 8
def dataField (w : OpWord) : Word := w.extractLsb' 0 32
def levelField (w : OpWord) : Bool := w.getLsbD 0

/-- The bits of R84 that must be 0 for a word of this kind, besides 60:56: `port` outside LINE, `offset` outside READ
and WRITE (47:40 in LINE), `data` outside WRITE (31:1 in LINE). -/
def strayBits (w : OpWord) : Bool :=
  match (kindField w).toNat with
  | 0 => portField w != 0#8 || dataField w != 0#32
  | 1 => portField w != 0#8
  | 2 => w.extractLsb' 40 8 != 0#8 || w.extractLsb' 1 31 != 0#31
  | _ => portField w != 0#8 || offsetField w != 0#16 || dataField w != 0#32

/-- R85 item 2: an admitted bus offset is aligned and inside the window; then the register there, if any. -/
def decodeOffset (c : Config) (offset : BitVec 16) : Except Rejection (Option Reg) :=
  if offset.toNat % 4 ≠ 0 then .error .misaligned
  else if c.mmioSize ≤ offset.toNat then .error .outsideWindow
  else .ok (Reg.atIndex (offset.toNat / 4))

/-- R85: decoding, in its order: reserved kind or bits, then the kind's own fields. -/
def decode (c : Config) (w : OpWord) : Except Rejection Instr :=
  if 6 ≤ (kindField w).toNat then .error .reservedKind
  else if reservedField w != 0#5 || strayBits w then .error .reservedBits
  else
    match (kindField w).toNat with
    | 0 =>
      match decodeOffset c (offsetField w) with
      | .error e => .error e
      | .ok (some r) => .ok r.readInstr
      | .ok none => .ok (.readUnmapped (offsetField w))
    | 1 =>
      match decodeOffset c (offsetField w) with
      | .error e => .error e
      | .ok (some r) => .ok (r.writeInstr (dataField w))
      | .ok none => .ok (.writeUnmapped (offsetField w) (dataField w))
    | 2 =>
      match Port.ofNumber (portField w).toNat with
      | none => .error .noSuchPort
      | some p => .ok (p.lineInstr (indexField w) (levelField w))
    | 3 => .ok .tick
    | 4 => .ok .timerExpire
    | _ => .ok .reset

/-- The operation word of a table row's bits: every bit above `nbits` is 0. -/
def tableWord (nbits w : Nat) : OpWord := (BitVec.ofNat nbits w).setWidth 64

/-- The operation an instruction word of `nbits` bits spells on the machine of `State.reset`, or none. -/
def decodeTableWord (nbits w : Nat) : Option Instr :=
  match decode Config.testTA (tableWord nbits w) with
  | .ok i => some i
  | .error _ => none

/-! ## The encoder -/

/-- The field layout of R84. -/
def assemble (kind : BitVec 3) (port : BitVec 8) (offset : BitVec 16) (data : Word) : OpWord :=
  kind ++ 0#5 ++ port ++ offset ++ data

def encodeRead (offset : BitVec 16) : OpWord := assemble 0#3 0#8 offset 0#32

def encodeWrite (offset : BitVec 16) (data : Word) : OpWord := assemble 1#3 0#8 offset data

def encodeLine (p : Port) (index : BitVec 8) (level : Bool) : OpWord :=
  assemble 2#3 p.number (0#8 ++ index) (0#31 ++ BitVec.ofBool level)

/-- The operation word of an operation (R84, R89). -/
def encode : Instr → OpWord
  | .readIntrState => encodeRead Reg.intrState.offset
  | .writeIntrState data => encodeWrite Reg.intrState.offset data
  | .readIntrEnable => encodeRead Reg.intrEnable.offset
  | .writeIntrEnable data => encodeWrite Reg.intrEnable.offset data
  | .readIntrTest => encodeRead Reg.intrTest.offset
  | .writeIntrTest data => encodeWrite Reg.intrTest.offset data
  | .readAlertTest => encodeRead Reg.alertTest.offset
  | .writeAlertTest data => encodeWrite Reg.alertTest.offset data
  | .readCtrlCfgRegwen => encodeRead Reg.ctrlCfgRegwen.offset
  | .writeCtrlCfgRegwen data => encodeWrite Reg.ctrlCfgRegwen.offset data
  | .readControl => encodeRead Reg.control.offset
  | .writeControl data => encodeWrite Reg.control.offset data
  | .readCfgCdcSync => encodeRead Reg.cfgCdcSync.offset
  | .writeCfgCdcSync data => encodeWrite Reg.cfgCdcSync.offset data
  | .readWakeupEnRegwen => encodeRead Reg.wakeupEnRegwen.offset
  | .writeWakeupEnRegwen data => encodeWrite Reg.wakeupEnRegwen.offset data
  | .readWakeupEn => encodeRead Reg.wakeupEn.offset
  | .writeWakeupEn data => encodeWrite Reg.wakeupEn.offset data
  | .readWakeStatus => encodeRead Reg.wakeStatus.offset
  | .writeWakeStatus data => encodeWrite Reg.wakeStatus.offset data
  | .readResetEnRegwen => encodeRead Reg.resetEnRegwen.offset
  | .writeResetEnRegwen data => encodeWrite Reg.resetEnRegwen.offset data
  | .readResetEn => encodeRead Reg.resetEn.offset
  | .writeResetEn data => encodeWrite Reg.resetEn.offset data
  | .readResetStatus => encodeRead Reg.resetStatus.offset
  | .writeResetStatus data => encodeWrite Reg.resetStatus.offset data
  | .readEscalateResetStatus => encodeRead Reg.escalateResetStatus.offset
  | .writeEscalateResetStatus data => encodeWrite Reg.escalateResetStatus.offset data
  | .readWakeInfoCaptureDis => encodeRead Reg.wakeInfoCaptureDis.offset
  | .writeWakeInfoCaptureDis data => encodeWrite Reg.wakeInfoCaptureDis.offset data
  | .readWakeInfo => encodeRead Reg.wakeInfo.offset
  | .writeWakeInfo data => encodeWrite Reg.wakeInfo.offset data
  | .readFaultStatus => encodeRead Reg.faultStatus.offset
  | .writeFaultStatus data => encodeWrite Reg.faultStatus.offset data
  | .readUnmapped offset => encodeRead offset
  | .writeUnmapped offset data => encodeWrite offset data
  | .lineRomGood index level => encodeLine .romGood index level
  | .lineRomDone index level => encodeLine .romDone index level
  | .lineWakeup index level => encodeLine .wakeup index level
  | .lineRstReq index level => encodeLine .rstReq index level
  | .lineSwRstReq index level => encodeLine .swRstReq index level
  | .lineLcRsp index level => encodeLine .lcRsp index level
  | .lineOtpRsp index level => encodeLine .otpRsp index level
  | .lineEscalate index level => encodeLine .escalate index level
  | .lineHoldFetch index level => encodeLine .holdFetch index level
  | .tick => assemble 3#3 0#8 0#16 0#32
  | .timerExpire => assemble 4#3 0#8 0#16 0#32
  | .reset => assemble 5#3 0#8 0#16 0#32

end Sys2Proof
end

