-- ==== Sys2Proof/Machine/State.lean ====
section
/-! DEFINITION. The state of one block (spec 10_state.md), its faults and refusals, and the state after reset
(spec 70_reset_and_hazards.md R270, R271). -/

namespace Sys2Proof.Machine

/-- The stored words of the register file (R22). INTR_TEST and ALERT_TEST "hold no stored word". -/
structure RegFile where
  /-- INTR_STATE (R23) -/
  intrState : Word
  /-- INTR_ENABLE (R24) -/
  intrEnable : Word
  /-- CTRL_CFG_REGWEN (R27) -/
  ctrlCfgRegwen : Word
  /-- CONTROL (R28) -/
  control : Word
  /-- CFG_CDC_SYNC (R29) -/
  cfgCdcSync : Word
  /-- WAKEUP_EN_REGWEN (R30) -/
  wakeupEnRegwen : Word
  /-- WAKEUP_EN (R31) -/
  wakeupEn : Word
  /-- WAKE_STATUS (R32) -/
  wakeStatus : Word
  /-- RESET_EN_REGWEN (R33) -/
  resetEnRegwen : Word
  /-- RESET_EN (R34) -/
  resetEn : Word
  /-- RESET_STATUS (R35) -/
  resetStatus : Word
  /-- ESCALATE_RESET_STATUS (R36) -/
  escalateResetStatus : Word
  /-- WAKE_INFO_CAPTURE_DIS (R37) -/
  wakeInfoCaptureDis : Word
  /-- WAKE_INFO (R38) -/
  wakeInfo : Word
  /-- FAULT_STATUS (R39) -/
  faultStatus : Word
  deriving DecidableEq, Repr

/-- The event latch (R40): sticky edge flags, and `holdFetch`, which follows its line's level (R41). -/
structure EventLatch where
  hwResetRequested : Bool
  swResetRequested : Bool
  otpDone          : Bool
  lcDone           : Bool
  escalate         : Bool
  holdFetch        : Bool
  /-- bit `i` for ROM channel `i` -/
  romGood          : BitVec 8
  romDone          : BitVec 8
  deriving DecidableEq, Repr

/-- The domain of a reset request (R42). -/
inductive Domain where
  | none
  | slow
  | fast
  deriving DecidableEq, Repr

/-- The pending reset request (R42): `cause` is unspecified while `domain = None`. -/
structure ResetRequest where
  domain : Domain
  cause  : ResetCause
  deriving DecidableEq, Repr

/-- The slow-domain states (R44), in the source's order, which is also their numbering. -/
inductive SlowState where
  | reset | lowPower | mainPowerOn | pwrClampOff | clocksOn | reqPwrUp
  | idle | ackPwrDn | clocksOff | pwrClampOn | mainPowerOff | invalid
  deriving DecidableEq, Repr

/-- The fast-domain states (R45), in the order of their numbering. -/
inductive FastState where
  | lowPower | enableClocks | releaseLcReset | otpInit | lcInit | ackPwrUp | strap
  | romCheckDone | romCheckGood | active | disClocks | fallThrough | nvmIdleChk
  | lowPowerPrep | nvmShutDown | resetPrep | resetWait | reqPwrDn | invalid
  deriving DecidableEq, Repr

/-- The output lines' levels (R48). -/
structure Outputs where
  wakeIrq : Bool
  alert : Bool
  otpReq : Bool
  lcReq : Bool
  cpuEn : Bool
  strap : Bool
  deriving DecidableEq, Repr

/-- The diagnostics of R240's table, each with the "info recorded" column. "Diag(k) entries carry no architectural
meaning" (R75). DESIGN CHOICE, safe (log 8): the payload is that column, and no text is kept. -/
inductive Diag where
  | badOffsetRead (offset : BitVec 16)
  | badOffsetWrite (offset : BitVec 16) (data : Word)
  | writeOnlyRead (offset : BitVec 16)
  | readOnlyWrite (offset : BitVec 16) (data : Word)
  | lockedWrite (offset : BitVec 16) (data : Word)
  | resetLineDisabled (index : BitVec 8)
  | resetLineUnmapped (index : BitVec 8)
  | resetOngoing (port : Port) (index : BitVec 8)
  | indexOutOfRange (port : Port) (index : BitVec 8)
  | wakeupIgnored (index : BitVec 8)
  | unimplementedMode (state : FastState)
  | fetchCtrlDisabled (level : Bool)
  deriving DecidableEq, Repr

/-- An output event (R11, R75). -/
inductive Event where
  /-- an output line changed its level -/
  | line (name : OutLine) (level : Bool)
  /-- the request handed to the external reset manager -/
  | resetReq (domain : Domain) (cause : ResetCause)
  /-- the main instance's system shutdown -/
  | fatalShutdown
  | diag (d : Diag)
  deriving DecidableEq, Repr

/-- What a bus read returns to the bus master (R75, R100). -/
structure ReadResult where
  value   : Word
  isLegal : Bool
  deriving DecidableEq, Repr

/-- The model faults of R245, "which are not hardware behaviour". -/
inductive Fault where
  /-- Raised by TICK in a slow state other than `Reset` and `Idle` (R181). Safe: no run reaches one. -/
  | unreachableSlowState
  /-- Raised by TICK in the fast state `Invalid` (R203). Safe: no run reaches it. -/
  | unreachableFastState
  deriving DecidableEq, Repr

/-- Why there is no step ("`refuse` means the operation has no step in the model", R11). -/
inductive Refusal where
  /-- Raised by an arm of `exec` without a meaning: no arm is. Safe. -/
  | notModelled (mnemonic : String)
  /-- Raised by every operation while `halted = true` (R49). Safe: the spec gives it no step. -/
  | halted
  /-- Raised by construction from a configuration that fails R8's check, and by every operation of a state that carries
  one (R242). Safe: the spec constructs no block and gives it no step. -/
  | illFormedConfiguration
  /-- Raised by `step` on a delivered word that spells no operation (R85, R86). Safe: the spec gives it no step. -/
  | notAnOperation (why : Rejection)
  /-- Raised by TICK while `tick_pending = false` (R66, R180). Safe: it is not enabled. -/
  | tickNotPending
  /-- Raised by TIMER_EXPIRE while `cdc_timer_armed = false` (R66, R230). Safe: it is not enabled. -/
  | timerNotArmed
  deriving DecidableEq, Repr

/-- The state of one block. `cfg` is the configuration, which no operation writes (R50). `deliveries` and `freeCount`
are the model's own: the operation words the agents deliver next, oldest first (log 2), and the index of the next
free value (log 5). -/
structure State where
  cfg           : Config
  regs          : RegFile
  latch         : EventLatch
  rst           : ResetRequest
  slow          : SlowState
  fast          : FastState
  /-- the single-slot pending-tick flag (R46) -/
  tickPending   : Bool
  /-- whether the one-shot settle timer is pending (R47) -/
  cdcTimerArmed : Bool
  out           : Outputs
  /-- set by a fatal shutdown; the state is then final (R49) -/
  halted        : Bool
  /-- the event history, oldest first (R75) -/
  history       : List Event
  /-- what bus reads returned, oldest first (R75; DESIGN CHOICE, safe, log 7) -/
  results       : List ReadResult
  deliveries    : List OpWord
  freeCount     : Nat
  deriving DecidableEq, Repr

/-- The register file after reset: "fully zeroed", the three locks set, CONTROL at its default (R270). -/
def RegFile.init (c : Config) : RegFile where
  intrState := 0#32
  intrEnable := 0#32
  ctrlCfgRegwen := 1#32
  control := c.controlReset
  cfgCdcSync := 0#32
  wakeupEnRegwen := 1#32
  wakeupEn := 0#32
  wakeStatus := 0#32
  resetEnRegwen := 1#32
  resetEn := 0#32
  resetStatus := 0#32
  escalateResetStatus := 0#32
  wakeInfoCaptureDis := 0#32
  wakeInfo := 0#32
  faultStatus := 0#32

/-- The event latch after reset: "cleared at reset" (R40, R270). -/
def EventLatch.clear : EventLatch where
  hwResetRequested := false
  swResetRequested := false
  otpDone := false
  lcDone := false
  escalate := false
  holdFetch := false
  romGood := 0#8
  romDone := 0#8

/-- Every output line deasserted (R48). -/
def Outputs.low : Outputs where
  wakeIrq := false
  alert := false
  otpReq := false
  lcReq := false
  cpuEn := false
  strap := false

/-- R270, R271: the state that component reset leaves with a configuration, with an empty history. Construction goes
through `State.construct` (Machine/Reset.lean), which refuses an ill-formed configuration. The cause of no request is
token 0 (DESIGN CHOICE, unsafe, log 4); nothing is delivered (log 2) and the free values start at 0 (log 5). -/
def State.afterReset (c : Config) : State where
  cfg := c
  regs := RegFile.init c
  latch := EventLatch.clear
  rst := ⟨.none, ⟨0⟩⟩
  slow := .reset
  fast := .lowPower
  tickPending := true
  cdcTimerArmed := false
  out := Outputs.low
  halted := false
  history := []
  results := []
  deliveries := []
  freeCount := 0

/-- The machine right after reset: what `State.construct` gives configuration TA (DESIGN CHOICE, unsafe, log 1). -/
def State.reset : State := State.afterReset Config.testTA

end Sys2Proof.Machine
end

