-- ==== Sys2Proof/Machine/Ops.lean ====
section
/-! DEFINITION. The named operations over the state: registers, output lines, events, the pending tick, the guard that
every operation starts from, the reset request's acceptance, and component reset's parts. The block takes no traps and
has no exception entry or return (spec 60_exceptions.md R243, R249), so none is written here. -/

namespace Sys2Proof.Machine

/-- What an operation answers. -/
abbrev Answer := Host.Outcome State Fault Refusal

/-! ## Registers (R22) -/

/-- The stored word of a register; a register without storage reads 0 (R25, R26). -/
def RegFile.get (f : RegFile) : Reg → Word
  | .intrState => f.intrState
  | .intrEnable => f.intrEnable
  | .intrTest => 0#32
  | .alertTest => 0#32
  | .ctrlCfgRegwen => f.ctrlCfgRegwen
  | .control => f.control
  | .cfgCdcSync => f.cfgCdcSync
  | .wakeupEnRegwen => f.wakeupEnRegwen
  | .wakeupEn => f.wakeupEn
  | .wakeStatus => f.wakeStatus
  | .resetEnRegwen => f.resetEnRegwen
  | .resetEn => f.resetEn
  | .resetStatus => f.resetStatus
  | .escalateResetStatus => f.escalateResetStatus
  | .wakeInfoCaptureDis => f.wakeInfoCaptureDis
  | .wakeInfo => f.wakeInfo
  | .faultStatus => f.faultStatus

/-- Store a word; a register without storage keeps nothing (R25, R26). -/
def RegFile.set (f : RegFile) (v : Word) : Reg → RegFile
  | .intrState => { f with intrState := v }
  | .intrEnable => { f with intrEnable := v }
  | .intrTest => f
  | .alertTest => f
  | .ctrlCfgRegwen => { f with ctrlCfgRegwen := v }
  | .control => { f with control := v }
  | .cfgCdcSync => { f with cfgCdcSync := v }
  | .wakeupEnRegwen => { f with wakeupEnRegwen := v }
  | .wakeupEn => { f with wakeupEn := v }
  | .wakeStatus => { f with wakeStatus := v }
  | .resetEnRegwen => { f with resetEnRegwen := v }
  | .resetEn => { f with resetEn := v }
  | .resetStatus => { f with resetStatus := v }
  | .escalateResetStatus => { f with escalateResetStatus := v }
  | .wakeInfoCaptureDis => { f with wakeInfoCaptureDis := v }
  | .wakeInfo => { f with wakeInfo := v }
  | .faultStatus => { f with faultStatus := v }

/-- `reg[R]` (R11). -/
def State.reg (s : State) (r : Reg) : Word := s.regs.get r

/-- `reg[R] <- v` (R11). -/
def State.setReg (r : Reg) (v : Word) (s : State) : State := { s with regs := s.regs.set v r }

/-! ## Output lines and events (R11, R48, R75) -/

def Outputs.get (o : Outputs) : OutLine → Bool
  | .wakeIrq => o.wakeIrq
  | .alert => o.alert
  | .otpReq => o.otpReq
  | .lcReq => o.lcReq
  | .cpuEn => o.cpuEn
  | .strap => o.strap

def Outputs.set (o : Outputs) (b : Bool) : OutLine → Outputs
  | .wakeIrq => { o with wakeIrq := b }
  | .alert => { o with alert := b }
  | .otpReq => { o with otpReq := b }
  | .lcReq => { o with lcReq := b }
  | .cpuEn => { o with cpuEn := b }
  | .strap => { o with strap := b }

/-- The event of driving a line to a level: one iff the level changes. -/
def lineEvents (o : Outputs) (l : OutLine) (b : Bool) : List Event :=
  if o.get l = b then [] else [.line l b]

/-- `emit E`: append to the history. -/
def State.emit (e : Event) (s : State) : State := { s with history := s.history ++ [e] }

/-- `raise Diag(k)`: an event and nothing else. -/
def State.diag (d : Diag) (s : State) : State := s.emit (.diag d)

/-- `set_out(L, b)`: "if out.L != b then out.L <- b; emit Line(L, b)". -/
def State.setOut (l : OutLine) (b : Bool) (s : State) : State :=
  { s with out := s.out.set b l, history := s.history ++ lineEvents s.out l b }

/-- A bus read's result goes to the bus master (R75). -/
def State.answer (value : Word) (isLegal : Bool) (s : State) : State :=
  { s with results := s.results ++ [⟨value, isLegal⟩] }

/-! ## Scheduling (R46) -/

/-- `arm_tick()`: idempotent. -/
def State.armTick (s : State) : State := { s with tickPending := true }

/-! ## The guard of every operation -/

/-- R49 and R242: a halted block, or one whose configuration is ill formed, takes no step (log 9). -/
def running (s : State) (k : Answer) : Answer :=
  if s.halted then .refused .halted
  else if s.cfg.wellFormed then k
  else .refused .illFormedConfiguration

/-! ## Reset requests (R42, R155) -/

/-- `accept_reset(bit, cause)` (R155): the request is pending for the fast domain. -/
def State.acceptReset (bit : Nat) (cause : ResetCause) (s : State) : State :=
  ({ s.setReg .resetStatus (s.reg .resetStatus ||| (1#32 <<< bit)) with rst := ⟨.fast, cause⟩ }).armTick

/-- `rst.domain <- None`: the cause is unspecified from then on, so it is a fresh free value (R42, log 4). -/
def State.dropRequest (s : State) : State :=
  { s with rst := ⟨.none, ⟨Config.freeCauseToken s.freeCount⟩⟩, freeCount := s.freeCount + 1 }

/-! ## Component reset (R270) -/

/-- The output lines in the order in which R270 deasserts them. -/
def resetOrder : List OutLine := [.wakeIrq, .alert, .otpReq, .lcReq, .cpuEn, .strap]

/-- `for L in [...]: set_out(L, 0)`. -/
def State.lowerOutputs (s : State) : State := resetOrder.foldl (fun t l => t.setOut l false) s

end Sys2Proof.Machine
end

