-- ==== Sys2Proof/Machine/Operands.lean ====
section
/-! DEFINITION. Operand assembly: legal masks (spec 30_encoding.md R81), the access policies of spec 10_state.md R22 as
functions of words, the read and write forms of spec 40_register_access.md, the fields of the multi-field registers, and
the index ranges of the ports (spec 30_encoding.md R82). -/

namespace Sys2Proof.Machine

/-- `mask(n) = 2^n - 1` as a 32-bit value (R10). -/
def lowMask (n : Nat) : Word := BitVec.ofNat 32 (2 ^ n - 1)

/-- `legal(R)`: the legal-mask column of R80. -/
def legal (c : Config) : Reg → Word
  | .intrState => 0x1#32
  | .intrEnable => 0x1#32
  | .intrTest => 0x1#32
  | .alertTest => 0x1#32
  | .ctrlCfgRegwen => 0x1#32
  | .control => c.controlMask
  | .cfgCdcSync => 0x1#32
  | .wakeupEnRegwen => 0x1#32
  | .wakeupEn => lowMask c.wakeupCount
  | .wakeStatus => lowMask c.wakeupCount
  | .resetEnRegwen => 0x1#32
  | .resetEn => c.resetMask
  | .resetStatus => c.resetMask
  | .escalateResetStatus => 0x1#32
  | .wakeInfoCaptureDis => 0x1#32
  | .wakeInfo => lowMask (c.wakeupCount + 2)
  | .faultStatus => 0x7#32

/-! ## Access policies (R22), on the stored word `old` and the masked value `v` -/

/-- RW1C "clears the stored bits where the masked value has a 1". -/
def rw1c (old v : Word) : Word := old &&& ~~~v

/-- RW1S "sets the stored bits where the masked value has a 1". -/
def rw1s (old v : Word) : Word := old ||| v

/-- RW0C "clears the stored bits where the masked value has a 0", `reg & v` (R117, R123). -/
def rw0c (old v : Word) : Word := old &&& v

/-! ## Bus reads (R100) -/

/-- A stored register's read: `return (reg[R], true)`. -/
def readStored (r : Reg) (s : State) : Answer :=
  running s (.next (s.answer (s.reg r) true))

/-- `wo_read(R)` (R139). -/
def readWriteOnly (r : Reg) (s : State) : Answer :=
  running s (.next ((s.diag (.writeOnlyRead r.offset)).answer 0#32 true))

/-! ## Bus writes (R101) -/

/-- `v = data & legal(R)` (R81). -/
def State.masked (s : State) (r : Reg) (data : Word) : Word := data &&& legal s.cfg r

/-- RW: the masked value is stored. -/
def State.storeRW (r : Reg) (data : Word) (s : State) : State := s.setReg r (s.masked r data)

/-- RW1C store. -/
def State.storeRW1C (r : Reg) (data : Word) (s : State) : State :=
  s.setReg r (rw1c (s.reg r) (s.masked r data))

/-- RW0C store. -/
def State.storeRW0C (r : Reg) (data : Word) (s : State) : State :=
  s.setReg r (rw0c (s.reg r) (s.masked r data))

/-- `gated_write(R, G, data)` (R137). -/
def writeGated (r gate : Reg) (data : Word) (s : State) : Answer :=
  running s (.next
    (if (s.reg gate).getLsbD 0 then s.storeRW r data else s.diag (.lockedWrite r.offset data)))

/-- `ro_write(R)` (R138). -/
def writeReadOnly (r : Reg) (data : Word) (s : State) : Answer :=
  running s (.next (s.diag (.readOnlyWrite r.offset data)))

/-! ## Fields of the registers that hold several (R28, R38, R39); none has an effect in scope -/

def lowPowerHint (control : Word) : Bool := control.getLsbD 0
def coreClkEn (control : Word) : Bool := control.getLsbD 4
def ioClkEn (control : Word) : Bool := control.getLsbD 5
def usbClkEnLp (control : Word) : Bool := control.getLsbD 6
def usbClkEnActive (control : Word) : Bool := control.getLsbD 7
def mainPdN (control : Word) : Bool := control.getLsbD 8

/-- REASONS, bits `wakeup_count-1:0` of WAKE_INFO. -/
def wakeReasons (c : Config) (wakeInfo : Word) : Word := wakeInfo &&& lowMask c.wakeupCount
def wakeFallThrough (c : Config) (wakeInfo : Word) : Bool := wakeInfo.getLsbD c.wakeupCount
def wakeAbort (c : Config) (wakeInfo : Word) : Bool := wakeInfo.getLsbD (c.wakeupCount + 1)

def regIntgErr (faultStatus : Word) : Bool := faultStatus.getLsbD 0
def escTimeout (faultStatus : Word) : Bool := faultStatus.getLsbD 1
def mainPdGlitch (faultStatus : Word) : Bool := faultStatus.getLsbD 2

/-! ## Ports (R82) -/

/-- How many lines a port has. -/
def lineCount (c : Config) : Port → Nat
  | .romGood => c.romCount
  | .romDone => c.romCount
  | .wakeup => c.wakeupCount
  | .rstReq => c.resetCount
  | .swRstReq => 1
  | .lcRsp => 1
  | .otpRsp => 1
  | .escalate => 1
  | .holdFetch => 1

/-- A delivery on a port whose out-of-range index is only reported (R162: every port but RST_REQ): the range check
comes before the port's own rule `k` (DEDUCED from R152 and R162, log 14). -/
def deliver (p : Port) (index : BitVec 8) (s : State) (k : Answer) : Answer :=
  running s
    (if lineCount s.cfg p ≤ index.toNat then .next (s.diag (.indexOutOfRange p index)) else k)

/-! ## The spec's numberings, which no register shows (R44, R45, R240) -/

def SlowState.number : SlowState → Nat
  | .reset => 0
  | .lowPower => 1
  | .mainPowerOn => 2
  | .pwrClampOff => 3
  | .clocksOn => 4
  | .reqPwrUp => 5
  | .idle => 6
  | .ackPwrDn => 7
  | .clocksOff => 8
  | .pwrClampOn => 9
  | .mainPowerOff => 10
  | .invalid => 11

def FastState.number : FastState → Nat
  | .lowPower => 0
  | .enableClocks => 1
  | .releaseLcReset => 2
  | .otpInit => 3
  | .lcInit => 4
  | .ackPwrUp => 5
  | .strap => 6
  | .romCheckDone => 7
  | .romCheckGood => 8
  | .active => 9
  | .disClocks => 10
  | .fallThrough => 11
  | .nvmIdleChk => 12
  | .lowPowerPrep => 13
  | .nvmShutDown => 14
  | .resetPrep => 15
  | .resetWait => 16
  | .reqPwrDn => 17
  | .invalid => 18

/-- The code column of R240. -/
def Diag.code : Diag → Nat
  | .badOffsetRead _ => 1
  | .badOffsetWrite _ _ => 2
  | .writeOnlyRead _ => 3
  | .readOnlyWrite _ _ => 4
  | .lockedWrite _ _ => 5
  | .resetLineDisabled _ => 6
  | .resetLineUnmapped _ => 7
  | .resetOngoing _ _ => 8
  | .indexOutOfRange _ _ => 9
  | .wakeupIgnored _ => 10
  | .unimplementedMode _ => 11
  | .fetchCtrlDisabled _ => 12

end Sys2Proof.Machine
end

