-- ==== Sys2Proof/Machine/Flags.lean ====
section
/-! DEFINITION. Every flag the block computes: the event-latch bits (spec 10_state.md R40), the wake interrupt line
(spec 40_register_access.md R136), the ROM tests of the tick (spec 42_fsm_tick.md R191, R192). There are no condition
codes (R51). -/

namespace Sys2Proof.Machine

/-- `INTR_STATE & INTR_ENABLE != 0` (R53). -/
def irqLevel (f : RegFile) : Bool := f.intrState &&& f.intrEnable != 0#32

/-- `update_irq()` (R136). -/
def State.updateIrq (s : State) : State := s.setOut .wakeIrq (irqLevel s.regs)

/-- `latch.rom_good <- latch.rom_good | (1 << i)` (R150). -/
def State.latchRomGood (i : Nat) (s : State) : State :=
  { s with latch := { s.latch with romGood := s.latch.romGood ||| (1#8 <<< i) } }

/-- `latch.rom_done <- latch.rom_done | (1 << i)` (R151). -/
def State.latchRomDone (i : Nat) (s : State) : State :=
  { s with latch := { s.latch with romDone := s.latch.romDone ||| (1#8 <<< i) } }

/-- Set only when the request is accepted (R156). -/
def State.latchHwReset (s : State) : State :=
  { s with latch := { s.latch with hwResetRequested := true } }

/-- Set only when the request is accepted (R157). -/
def State.latchSwReset (s : State) : State :=
  { s with latch := { s.latch with swResetRequested := true } }

def State.latchLcDone (s : State) : State := { s with latch := { s.latch with lcDone := true } }

def State.latchOtpDone (s : State) : State := { s with latch := { s.latch with otpDone := true } }

def State.latchEscalate (s : State) : State := { s with latch := { s.latch with escalate := true } }

/-- "level, not edge" (R161). -/
def State.latchHoldFetch (level : Bool) (s : State) : State :=
  { s with latch := { s.latch with holdFetch := level } }

/-- `(bitmap & mask(rom_count)) = mask(rom_count)` (R191, R192). -/
def allRoms (c : Config) (bitmap : BitVec 8) : Bool :=
  bitmap &&& BitVec.ofNat 8 (2 ^ c.romCount - 1) == BitVec.ofNat 8 (2 ^ c.romCount - 1)

/-- A request is in flight: the internal word is non-zero (R13, R35). -/
def State.resetInFlight (s : State) : Bool := s.reg .resetStatus != 0#32

end Sys2Proof.Machine
end

