-- ==== Sys2Proof/Machine/Agents.lean ====
section
/-! DEFINITION. Which agent moves next (spec 20_memory.md R66): the delivered operation words first, then the block's own
scheduler and settle timer. -/

namespace Sys2Proof.Machine

/-- The block's own agents, when nothing is delivered (log 3): the scheduler if a tick is pending, the settle timer if
it is armed; which goes first when both are enabled is a free value. The state has the free value used up. -/
def ownAgent (s : State) : Option (Instr × State) :=
  match s.tickPending, s.cdcTimerArmed with
  | true, true =>
    some (if Config.freeTimerFirst s.freeCount then .timerExpire else .tick,
          { s with freeCount := s.freeCount + 1 })
  | true, false => some (.tick, s)
  | false, true => some (.timerExpire, s)
  | false, false => none

/-- Put a word before whatever is delivered. -/
def State.withDelivery (w : OpWord) (s : State) : State := { s with deliveries := w :: s.deliveries }

end Sys2Proof.Machine
end

