-- ==== Sys2Proof/Machine/BusRead.lean ====
section
/-! DEFINITION. The bus reads (spec 40_register_access.md, the READ rules): each answers the bus master and changes no
state but for the diagnostic of a write-only or unmapped read (R100). -/

namespace Sys2Proof.Machine

/-- READ_INTR_STATE (R102). -/
def execReadIntrState (s : State) : Answer := readStored .intrState s

/-- READ_INTR_ENABLE (R104). -/
def execReadIntrEnable (s : State) : Answer := readStored .intrEnable s

/-- READ_INTR_TEST (R106). -/
def execReadIntrTest (s : State) : Answer := readWriteOnly .intrTest s

/-- READ_ALERT_TEST (R108). -/
def execReadAlertTest (s : State) : Answer := readWriteOnly .alertTest s

/-- READ_CTRL_CFG_REGWEN (R110). -/
def execReadCtrlCfgRegwen (s : State) : Answer := readStored .ctrlCfgRegwen s

/-- READ_CONTROL (R112). -/
def execReadControl (s : State) : Answer := readStored .control s

/-- READ_CFG_CDC_SYNC (R114). -/
def execReadCfgCdcSync (s : State) : Answer := readStored .cfgCdcSync s

/-- READ_WAKEUP_EN_REGWEN (R116). -/
def execReadWakeupEnRegwen (s : State) : Answer := readStored .wakeupEnRegwen s

/-- READ_WAKEUP_EN (R118). -/
def execReadWakeupEn (s : State) : Answer := readStored .wakeupEn s

/-- READ_WAKE_STATUS (R120). -/
def execReadWakeStatus (s : State) : Answer := readStored .wakeStatus s

/-- READ_RESET_EN_REGWEN (R122). -/
def execReadResetEnRegwen (s : State) : Answer := readStored .resetEnRegwen s

/-- READ_RESET_EN (R124). -/
def execReadResetEn (s : State) : Answer := readStored .resetEn s

/-- READ_RESET_STATUS (R126): "return (reg[RESET_STATUS] & reset_mask, true)", so the hidden bit is not shown. -/
def execReadResetStatus (s : State) : Answer :=
  running s (.next (s.answer (s.reg .resetStatus &&& s.cfg.resetMask) true))

/-- READ_ESCALATE_RESET_STATUS (R128). -/
def execReadEscalateResetStatus (s : State) : Answer := readStored .escalateResetStatus s

/-- READ_WAKE_INFO_CAPTURE_DIS (R130). -/
def execReadWakeInfoCaptureDis (s : State) : Answer := readStored .wakeInfoCaptureDis s

/-- READ_WAKE_INFO (R132). -/
def execReadWakeInfo (s : State) : Answer := readStored .wakeInfo s

/-- READ_FAULT_STATUS (R134). -/
def execReadFaultStatus (s : State) : Answer := readStored .faultStatus s

/-- READ_UNMAPPED (R140): "raise Diag(BAD_OFFSET_READ); return (0, false)". -/
def execReadUnmapped (offset : BitVec 16) (s : State) : Answer :=
  running s (.next ((s.diag (.badOffsetRead offset)).answer 0#32 false))

end Sys2Proof.Machine
end

