-- ==== Sys2Proof/Machine/BusWrite.lean ====
section
/-! DEFINITION. The bus writes (spec 40_register_access.md, the WRITE rules). No write arms a tick or touches the
latch. -/

namespace Sys2Proof.Machine

/-- WRITE_INTR_STATE (R103): RW1C, then the interrupt line. -/
def execWriteIntrState (data : Word) (s : State) : Answer :=
  running s (.next (s.storeRW1C .intrState data).updateIrq)

/-- WRITE_INTR_ENABLE (R105): RW, then the interrupt line. -/
def execWriteIntrEnable (data : Word) (s : State) : Answer :=
  running s (.next (s.storeRW .intrEnable data).updateIrq)

/-- WRITE_INTR_TEST (R107): the masked value accumulates into INTR_STATE, then the interrupt line. -/
def execWriteIntrTest (data : Word) (s : State) : Answer :=
  running s (.next
    (s.setReg .intrState (rw1s (s.reg .intrState) (s.masked .intrTest data))).updateIrq)

/-- WRITE_ALERT_TEST (R109): a written 1 asserts the alert line; nothing here deasserts it. -/
def execWriteAlertTest (data : Word) (s : State) : Answer :=
  running s (.next (if (s.masked .alertTest data).getLsbD 0 then s.setOut .alert true else s))

/-- WRITE_CTRL_CFG_REGWEN (R111). -/
def execWriteCtrlCfgRegwen (data : Word) (s : State) : Answer := writeReadOnly .ctrlCfgRegwen data s

/-- WRITE_CONTROL (R113). -/
def execWriteControl (data : Word) (s : State) : Answer := writeGated .control .ctrlCfgRegwen data s

/-- WRITE_CFG_CDC_SYNC (R115): RW1S, and a written 1 arms the settle timer. -/
def execWriteCfgCdcSync (data : Word) (s : State) : Answer :=
  running s (.next
    { s.setReg .cfgCdcSync (rw1s (s.reg .cfgCdcSync) (s.masked .cfgCdcSync data)) with
      cdcTimerArmed := s.cdcTimerArmed || s.masked .cfgCdcSync data != 0#32 })

/-- WRITE_WAKEUP_EN_REGWEN (R117): RW0C, so a 1 never opens the lock again. -/
def execWriteWakeupEnRegwen (data : Word) (s : State) : Answer :=
  running s (.next (s.storeRW0C .wakeupEnRegwen data))

/-- WRITE_WAKEUP_EN (R119). -/
def execWriteWakeupEn (data : Word) (s : State) : Answer := writeGated .wakeupEn .wakeupEnRegwen data s

/-- WRITE_WAKE_STATUS (R121). -/
def execWriteWakeStatus (data : Word) (s : State) : Answer := writeReadOnly .wakeStatus data s

/-- WRITE_RESET_EN_REGWEN (R123): RW0C. -/
def execWriteResetEnRegwen (data : Word) (s : State) : Answer :=
  running s (.next (s.storeRW0C .resetEnRegwen data))

/-- WRITE_RESET_EN (R125). -/
def execWriteResetEn (data : Word) (s : State) : Answer := writeGated .resetEn .resetEnRegwen data s

/-- WRITE_RESET_STATUS (R127): software cannot clear a request in flight. -/
def execWriteResetStatus (data : Word) (s : State) : Answer := writeReadOnly .resetStatus data s

/-- WRITE_ESCALATE_RESET_STATUS (R129). -/
def execWriteEscalateResetStatus (data : Word) (s : State) : Answer :=
  writeReadOnly .escalateResetStatus data s

/-- WRITE_WAKE_INFO_CAPTURE_DIS (R131): RW. -/
def execWriteWakeInfoCaptureDis (data : Word) (s : State) : Answer :=
  running s (.next (s.storeRW .wakeInfoCaptureDis data))

/-- WRITE_WAKE_INFO (R133): RW1C. -/
def execWriteWakeInfo (data : Word) (s : State) : Answer :=
  running s (.next (s.storeRW1C .wakeInfo data))

/-- WRITE_FAULT_STATUS (R135). -/
def execWriteFaultStatus (data : Word) (s : State) : Answer := writeReadOnly .faultStatus data s

/-- WRITE_UNMAPPED (R141): the diagnostic and no state change. -/
def execWriteUnmapped (offset : BitVec 16) (data : Word) (s : State) : Answer :=
  running s (.next (s.diag (.badOffsetWrite offset data)))

end Sys2Proof.Machine
end

