-- ==== Sys2Proof/Machine/Lines.lean ====
section
/-! DEFINITION. The line deliveries (spec 41_signal_inputs.md): each updates the latch bits it owns and may arm a tick;
none moves the FSM or an output line. -/

namespace Sys2Proof.Machine

/-- LINE_ROM_GOOD (R150): level 0 changes nothing and arms nothing. -/
def execLineRomGood (index : BitVec 8) (level : Bool) (s : State) : Answer :=
  deliver .romGood index s (.next (if level then (s.latchRomGood index.toNat).armTick else s))

/-- LINE_ROM_DONE (R151). -/
def execLineRomDone (index : BitVec 8) (level : Bool) (s : State) : Answer :=
  deliver .romDone index s (.next (if level then (s.latchRomDone index.toNat).armTick else s))

/-- LINE_WAKEUP (R154): "currently diagnostic-only". -/
def execLineWakeup (index : BitVec 8) (level : Bool) (s : State) : Answer :=
  deliver .wakeup index s (.next (if level then s.diag (.wakeupIgnored index) else s))

/-- LINE_RST_REQ (R156), its checks in R248's order: unmapped line, level 0, request in flight, line disabled. The last
arm is an ill-formed configuration (R8: `reset_dispatch(i)` is defined for every line), which `running` has refused. -/
def execLineRstReq (index : BitVec 8) (level : Bool) (s : State) : Answer :=
  running s
    (if s.cfg.resetCount ≤ index.toNat then .next (s.diag (.resetLineUnmapped index))
    else if !level then .next s
    else if s.resetInFlight then .next (s.diag (.resetOngoing .rstReq index))
    else if s.cfg.resetMask.getLsbD index.toNat && !(s.reg .resetEn).getLsbD index.toNat then
      .next (s.diag (.resetLineDisabled index))
    else
      match s.cfg.resetDispatch[index.toNat]? with
      | some cause => .next (s.latchHwReset.acceptReset index.toNat cause)
      | none => .refused .illFormedConfiguration)

/-- LINE_SW_RST_REQ (R157): RESET_EN does not gate it, and it takes the hidden bit `reset_count`. -/
def execLineSwRstReq (index : BitVec 8) (level : Bool) (s : State) : Answer :=
  deliver .swRstReq index s
    (.next
      (if !level then s
      else if s.resetInFlight then s.diag (.resetOngoing .swRstReq index)
      else s.latchSwReset.acceptReset s.cfg.resetCount s.cfg.swResetCause))

/-- LINE_LC_RSP (R158). -/
def execLineLcRsp (index : BitVec 8) (level : Bool) (s : State) : Answer :=
  deliver .lcRsp index s (.next (if level then s.latchLcDone.armTick else s))

/-- LINE_OTP_RSP (R159). -/
def execLineOtpRsp (index : BitVec 8) (level : Bool) (s : State) : Answer :=
  deliver .otpRsp index s (.next (if level then s.latchOtpDone.armTick else s))

/-- LINE_ESCALATE (R160): the FSM does not change here. -/
def execLineEscalate (index : BitVec 8) (level : Bool) (s : State) : Answer :=
  deliver .escalate index s
    (.next (if level then (s.latchEscalate.setReg .escalateResetStatus 1#32).armTick else s))

/-- LINE_HOLD_FETCH (R161): follows the level and arms a tick on every delivery, if fetch control is on. -/
def execLineHoldFetch (index : BitVec 8) (level : Bool) (s : State) : Answer :=
  deliver .holdFetch index s
    (.next (if s.cfg.fetchCtrl then (s.latchHoldFetch level).armTick
            else s.diag (.fetchCtrlDisabled level)))

end Sys2Proof.Machine
end

