-- ==== Sys2Proof/Machine/Reset.lean ====
section
/-! DEFINITION. Construction (spec 00_scope.md R8, 60_exceptions.md R242, 70_reset_and_hazards.md R271) and component
reset (R270). -/

namespace Sys2Proof.Machine

/-- R8, R242, R271: the check "is made once, at construction". A well-formed configuration gives a block in its reset
state; from an ill-formed one "the model refuses to construct the block and gives it no state". -/
def State.construct (c : Config) : Except Refusal State :=
  if c.wellFormed then .ok (State.afterReset c) else .error .illFormedConfiguration

/-- RESET (R270): every piece of state at its reset value, an event for each output line that drops, and the first tick
armed. The history, the read results, the configuration and what is still delivered stand. -/
def execReset (s : State) : Answer :=
  running s (.next
    ({ s with
        regs := RegFile.init s.cfg
        latch := EventLatch.clear
        slow := .reset
        fast := .lowPower
        cdcTimerArmed := false }).dropRequest.lowerOutputs.armTick)

end Sys2Proof.Machine
end

