-- ==== Sys2Proof/Machine/Tick.lean ====
section
/-! DEFINITION. The FSM tick (spec 42_fsm_tick.md): the slow step, the escalation override, the fast-domain table and
the re-arming of the next tick. -/

namespace Sys2Proof.Machine

/-- The FSM's jump, `fast <- S` (R11). -/
def State.goto (f : FastState) (s : State) : State := { s with fast := f }

/-- `slow_step()` (R181): the state after it and whether it changed. -/
def slowStep (s : State) : Except Fault (State × Bool) :=
  match s.slow with
  | .reset => .ok ({ s with slow := .idle }, true)
  | .idle => .ok (s, false)
  | .lowPower => .error .unreachableSlowState
  | .mainPowerOn => .error .unreachableSlowState
  | .pwrClampOff => .error .unreachableSlowState
  | .clocksOn => .error .unreachableSlowState
  | .reqPwrUp => .error .unreachableSlowState
  | .ackPwrDn => .error .unreachableSlowState
  | .clocksOff => .error .unreachableSlowState
  | .pwrClampOn => .error .unreachableSlowState
  | .mainPowerOff => .error .unreachableSlowState
  | .invalid => .error .unreachableSlowState

/-- `escalate_step()` (R182): the main instance also shuts the system down, once, and halts. -/
def escalateStep (s : State) : State × Bool :=
  if s.fast = .reqPwrDn then (s, false)
  else if s.cfg.main then ({ (s.goto .reqPwrDn).emit .fatalShutdown with halted := true }, true)
  else (s.goto .reqPwrDn, true)

/-- State `OtpInit` (R187). -/
def stepOtpInit (s : State) : State :=
  if s.latch.otpDone then ((s.setOut .otpReq false).setOut .lcReq true).goto .lcInit else s

/-- State `LcInit` (R188). -/
def stepLcInit (s : State) : State :=
  if s.latch.lcDone then (s.setOut .lcReq false).goto .ackPwrUp else s

/-- State `RomCheckDone` (R191). -/
def stepRomCheckDone (s : State) : State :=
  if allRoms s.cfg s.latch.romDone then (s.setOut .strap false).goto .romCheckGood else s

/-- State `RomCheckGood` (R192). -/
def stepRomCheckGood (s : State) : State :=
  if allRoms s.cfg s.latch.romGood && !s.latch.holdFetch then s.goto .active else s

/-- State `Active`: without a request in flight (R193), with one (R194). -/
def stepActive (s : State) : State :=
  if s.resetInFlight then (s.setOut .cpuEn false).goto .disClocks else s.setOut .cpuEn true

/-- The four unimplemented low-power states (R196 to R199). -/
def stepUnimplemented (s : State) : State := (s.diag (.unimplementedMode s.fast)).goto .resetPrep

/-- State `ResetPrep`, the dispatch half of the reset dispatcher (R200). -/
def stepResetPrep (s : State) : State :=
  if s.rst.domain = .none then s.goto .resetWait
  else ((s.emit (.resetReq s.rst.domain s.rst.cause)).dropRequest).goto .resetWait

/-- `fast_step()` (R183): the rule of the current fast state, R184 to R203. -/
def fastStep (s : State) : Except Fault State :=
  match s.fast with
  | .lowPower => .ok (s.goto .enableClocks)
  | .enableClocks => .ok (s.goto .releaseLcReset)
  | .releaseLcReset => .ok ((s.setOut .otpReq true).goto .otpInit)
  | .otpInit => .ok (stepOtpInit s)
  | .lcInit => .ok (stepLcInit s)
  | .ackPwrUp => .ok (s.goto .strap)
  | .strap => .ok ((s.setOut .strap true).goto .romCheckDone)
  | .romCheckDone => .ok (stepRomCheckDone s)
  | .romCheckGood => .ok (stepRomCheckGood s)
  | .active => .ok (stepActive s)
  | .disClocks => .ok (s.goto .resetPrep)
  | .fallThrough => .ok (stepUnimplemented s)
  | .nvmIdleChk => .ok (stepUnimplemented s)
  | .lowPowerPrep => .ok (stepUnimplemented s)
  | .nvmShutDown => .ok (stepUnimplemented s)
  | .resetPrep => .ok (stepResetPrep s)
  | .resetWait => .ok s
  | .reqPwrDn => .ok s
  | .invalid => .error .unreachableFastState

/-- `if changed: arm_tick()` (R180). -/
def State.rearmIf (changed : Bool) (s : State) : State := if changed then s.armTick else s

/-- The fast evaluation of a pass that finds `slow = Idle` (R180), with what the slow step reported. -/
def fastPass (changed : Bool) (s : State) : Answer :=
  if s.latch.escalate then .next ((escalateStep s).1.rearmIf ((escalateStep s).2 || changed))
  else
    match fastStep s with
    | .error f => .fault f
    | .ok t => .next (t.rearmIf (t.fast != s.fast || changed))

/-- `tick()` (R180), once it is enabled. -/
def tickPass (s : State) : Answer :=
  match slowStep { s with tickPending := false } with
  | .error f => .fault f
  | .ok (t, changed) => if t.slow = .idle then fastPass changed t else .next (t.rearmIf changed)

/-- TICK (R180): "enabled iff `tick_pending = true` and `halted = false`". -/
def execTick (s : State) : Answer :=
  running s (if s.tickPending then tickPass s else .refused .tickNotPending)

end Sys2Proof.Machine
end

