-- ==== Sys2Proof/Machine/Timer.lean ====
section
/-! DEFINITION. The CDC-sync settle timer (spec 43_timer.md). -/

namespace Sys2Proof.Machine

/-- TIMER_EXPIRE (R230): enabled iff the timer is armed; it clears SYNC and arms no tick. -/
def execTimerExpire (s : State) : Answer :=
  running s
    (if s.cdcTimerArmed then
      .next { s.setReg .cfgCdcSync (s.reg .cfgCdcSync &&& ~~~(0x1#32)) with cdcTimerArmed := false }
    else .refused .timerNotArmed)

end Sys2Proof.Machine
end

