-- ==== Sys2Proof/Machine/Dispatch.lean ====
section
/-! DEFINITION. The dispatch: one arm per constructor of Instr, each a direct call of its meaning. -/

namespace Sys2Proof.Machine

def exec (i : Instr) (s : State) : Host.Outcome State Fault Refusal :=
  match i with
  | .readIntrState => Sys2Proof.Machine.execReadIntrState s
  | .writeIntrState data => Sys2Proof.Machine.execWriteIntrState data s
  | .readIntrEnable => Sys2Proof.Machine.execReadIntrEnable s
  | .writeIntrEnable data => Sys2Proof.Machine.execWriteIntrEnable data s
  | .readIntrTest => Sys2Proof.Machine.execReadIntrTest s
  | .writeIntrTest data => Sys2Proof.Machine.execWriteIntrTest data s
  | .readAlertTest => Sys2Proof.Machine.execReadAlertTest s
  | .writeAlertTest data => Sys2Proof.Machine.execWriteAlertTest data s
  | .readCtrlCfgRegwen => Sys2Proof.Machine.execReadCtrlCfgRegwen s
  | .writeCtrlCfgRegwen data => Sys2Proof.Machine.execWriteCtrlCfgRegwen data s
  | .readControl => Sys2Proof.Machine.execReadControl s
  | .writeControl data => Sys2Proof.Machine.execWriteControl data s
  | .readCfgCdcSync => Sys2Proof.Machine.execReadCfgCdcSync s
  | .writeCfgCdcSync data => Sys2Proof.Machine.execWriteCfgCdcSync data s
  | .readWakeupEnRegwen => Sys2Proof.Machine.execReadWakeupEnRegwen s
  | .writeWakeupEnRegwen data => Sys2Proof.Machine.execWriteWakeupEnRegwen data s
  | .readWakeupEn => Sys2Proof.Machine.execReadWakeupEn s
  | .writeWakeupEn data => Sys2Proof.Machine.execWriteWakeupEn data s
  | .readWakeStatus => Sys2Proof.Machine.execReadWakeStatus s
  | .writeWakeStatus data => Sys2Proof.Machine.execWriteWakeStatus data s
  | .readResetEnRegwen => Sys2Proof.Machine.execReadResetEnRegwen s
  | .writeResetEnRegwen data => Sys2Proof.Machine.execWriteResetEnRegwen data s
  | .readResetEn => Sys2Proof.Machine.execReadResetEn s
  | .writeResetEn data => Sys2Proof.Machine.execWriteResetEn data s
  | .readResetStatus => Sys2Proof.Machine.execReadResetStatus s
  | .writeResetStatus data => Sys2Proof.Machine.execWriteResetStatus data s
  | .readEscalateResetStatus => Sys2Proof.Machine.execReadEscalateResetStatus s
  | .writeEscalateResetStatus data => Sys2Proof.Machine.execWriteEscalateResetStatus data s
  | .readWakeInfoCaptureDis => Sys2Proof.Machine.execReadWakeInfoCaptureDis s
  | .writeWakeInfoCaptureDis data => Sys2Proof.Machine.execWriteWakeInfoCaptureDis data s
  | .readWakeInfo => Sys2Proof.Machine.execReadWakeInfo s
  | .writeWakeInfo data => Sys2Proof.Machine.execWriteWakeInfo data s
  | .readFaultStatus => Sys2Proof.Machine.execReadFaultStatus s
  | .writeFaultStatus data => Sys2Proof.Machine.execWriteFaultStatus data s
  | .readUnmapped offset => Sys2Proof.Machine.execReadUnmapped offset s
  | .writeUnmapped offset data => Sys2Proof.Machine.execWriteUnmapped offset data s
  | .lineRomGood index level => Sys2Proof.Machine.execLineRomGood index level s
  | .lineRomDone index level => Sys2Proof.Machine.execLineRomDone index level s
  | .lineWakeup index level => Sys2Proof.Machine.execLineWakeup index level s
  | .lineRstReq index level => Sys2Proof.Machine.execLineRstReq index level s
  | .lineSwRstReq index level => Sys2Proof.Machine.execLineSwRstReq index level s
  | .lineLcRsp index level => Sys2Proof.Machine.execLineLcRsp index level s
  | .lineOtpRsp index level => Sys2Proof.Machine.execLineOtpRsp index level s
  | .lineEscalate index level => Sys2Proof.Machine.execLineEscalate index level s
  | .lineHoldFetch index level => Sys2Proof.Machine.execLineHoldFetch index level s
  | .tick => Sys2Proof.Machine.execTick s
  | .timerExpire => Sys2Proof.Machine.execTimerExpire s
  | .reset => Sys2Proof.Machine.execReset s

end Sys2Proof.Machine
end

