-- ==== Sys2Proof/Machine/Step.lean ====
section
/-! DEFINITION. One step: the next delivered operation word is decoded and runs; with nothing delivered the block's own
agents move, or the block waits (log 2, 3). -/

namespace Sys2Proof.Machine

/-- One step of the block: exactly one operation of one agent, or a wait when no agent has one. -/
def step (s : State) : Host.Outcome State Fault Refusal :=
  match s.deliveries with
  | w :: rest =>
    match decode s.cfg w with
    | .ok i => exec i { s with deliveries := rest }
    | .error e => .refused (.notAnOperation e)
  | [] =>
    match ownAgent s with
    | some (i, t) => exec i t
    | none => running s (.next s)

/-- The state in which that operation word is delivered next. -/
def State.withFetchWord (s : State) (nbits w : Nat) : State := s.withDelivery (tableWord nbits w)

end Sys2Proof.Machine
end

