-- ==== Sys2Proof/Safety.lean ====
section
/-! DEFINITION. The words the statements use: when a block has steps, the invariant of the block, the evidence behind
its boot states, the discipline of its request lines, and what is not read. -/

namespace Sys2Proof.Machine

/-- Operations have a step: not halted (R49), built from a well-formed configuration (R242). -/
abbrev State.Ready (s : State) : Prop := s.halted = false ∧ s.cfg.wellFormed = true

/-- A tick is due and reaches the fast-domain table: pending, the slow machine is `Idle` and no escalation is latched
(R180). -/
abbrev State.TableTickDue (s : State) : Prop :=
  s.Ready ∧ s.tickPending = true ∧ s.slow = .idle ∧ s.latch.escalate = false

/-- Is it a bus read? -/
def isRead : Instr → Bool
  | .readIntrState => true
  | .readIntrEnable => true
  | .readIntrTest => true
  | .readAlertTest => true
  | .readCtrlCfgRegwen => true
  | .readControl => true
  | .readCfgCdcSync => true
  | .readWakeupEnRegwen => true
  | .readWakeupEn => true
  | .readWakeStatus => true
  | .readResetEnRegwen => true
  | .readResetEn => true
  | .readResetStatus => true
  | .readEscalateResetStatus => true
  | .readWakeInfoCaptureDis => true
  | .readWakeInfo => true
  | .readFaultStatus => true
  | .readUnmapped _ => true
  | _ => false

/-- Is it a bus write? -/
def isWrite : Instr → Bool
  | .writeIntrState _ => true
  | .writeIntrEnable _ => true
  | .writeIntrTest _ => true
  | .writeAlertTest _ => true
  | .writeCtrlCfgRegwen _ => true
  | .writeControl _ => true
  | .writeCfgCdcSync _ => true
  | .writeWakeupEnRegwen _ => true
  | .writeWakeupEn _ => true
  | .writeWakeStatus _ => true
  | .writeResetEnRegwen _ => true
  | .writeResetEn _ => true
  | .writeResetStatus _ => true
  | .writeEscalateResetStatus _ => true
  | .writeWakeInfoCaptureDis _ => true
  | .writeWakeInfo _ => true
  | .writeFaultStatus _ => true
  | .writeUnmapped _ _ => true
  | _ => false

/-- Is it a line delivery? -/
def isLine : Instr → Bool
  | .lineRomGood _ _ => true
  | .lineRomDone _ _ => true
  | .lineWakeup _ _ => true
  | .lineRstReq _ _ => true
  | .lineSwRstReq _ _ => true
  | .lineLcRsp _ _ => true
  | .lineOtpRsp _ _ => true
  | .lineEscalate _ _ => true
  | .lineHoldFetch _ _ => true
  | _ => false

/-- The invariant of the block: what 10_state.md says holds at all times. -/
structure BlockInv (s : State) : Prop where
  /-- a block is constructed of a well-formed configuration only, "so a configuration that passed at construction passes
  at every reset" (R8, R242) -/
  configured : s.cfg.wellFormed = true
  /-- "every stored word holds zero in every bit outside its legal mask" (R22); RESET_STATUS is `oneRequest`'s -/
  regsLegal : ∀ r, r ≠ .resetStatus → s.reg r &&& ~~~legal s.cfg r = 0#32
  /-- "at most one bit is ever set", a line's or the hidden one (R35) -/
  oneRequest : s.regs.resetStatus = 0#32 ∨
    ∃ k, k ≤ s.cfg.resetCount ∧ s.regs.resetStatus = 1#32 <<< k
  /-- `wake_irq` follows INTR_STATE and INTR_ENABLE (R53) -/
  irqFollows : s.out.wakeIrq = (s.regs.intrState &&& s.regs.intrEnable != 0#32)
  /-- CTRL_CFG_REGWEN reads 1 at all times (R27, R110) -/
  controlOpen : s.regs.ctrlCfgRegwen = 1#32
  /-- WAKE_STATUS, WAKE_INFO and FAULT_STATUS read 0 at all times (R32, R38, R39) -/
  neverSet : s.regs.wakeStatus = 0#32 ∧ s.regs.wakeInfo = 0#32 ∧ s.regs.faultStatus = 0#32
  /-- "`slow` takes only the values `Reset` and `Idle`" (R44) -/
  slowReached : s.slow = .reset ∨ s.slow = .idle
  /-- the unreachable fast states (R45) -/
  fastReached : s.fast ≠ .fallThrough ∧ s.fast ≠ .nvmIdleChk ∧ s.fast ≠ .lowPowerPrep ∧
    s.fast ≠ .nvmShutDown ∧ s.fast ≠ .invalid
  /-- before the first tick the fast machine has not moved (R180) -/
  slowFirst : s.slow = .reset → s.fast = .lowPower
  /-- "no operation in scope produces `domain = Slow`" (R42) -/
  domainNotSlow : s.rst.domain ≠ .slow
  /-- a pending request is one that RESET_STATUS shows in flight (R155) -/
  pendingInFlight : s.regs.resetStatus = 0#32 → s.rst.domain = .none
  /-- ESCALATE_RESET_STATUS and `escalate` are set together (R160) -/
  escalateShown : s.regs.escalateResetStatus = (if s.latch.escalate then 1#32 else 0#32)
  /-- "`escalate` is latched whenever `fast = ReqPwrDn`" (R202) -/
  powerDownEscalated : s.fast = .reqPwrDn → s.latch.escalate = true
  /-- "bits `7:rom_count` of `rom_good` and `rom_done` are never set" (R40) -/
  romChannels : ∀ k, s.cfg.romCount ≤ k →
    s.latch.romGood.getLsbD k = false ∧ s.latch.romDone.getLsbD k = false
  /-- with `fetch_ctrl = false`, `hold_fetch` stays 0 (R161) -/
  holdNeedsControl : s.latch.holdFetch = true → s.cfg.fetchCtrl = true
  /-- SYNC reads 1 exactly while the settle timer is armed (R47, R52, R115, R230) -/
  syncPulse : s.regs.cfgCdcSync = (if s.cdcTimerArmed then 1#32 else 0#32)
  /-- only a main instance halts, on its way into `ReqPwrDn` (R182) -/
  haltedMain : s.halted = true → s.cfg.main = true ∧ s.fast = .reqPwrDn

/-- Which responses stand behind each boot state, for the fast states from `LcInit` to `ResetWait`, by the numbering of
R45 (R187, R188, R191, R192, R204). -/
structure BootEvidence (s : State) : Prop where
  otp : 4 ≤ s.fast.number → s.fast.number ≤ 16 → s.latch.otpDone = true
  lc : 5 ≤ s.fast.number → s.fast.number ≤ 16 → s.latch.lcDone = true
  romDone : 8 ≤ s.fast.number → s.fast.number ≤ 16 →
    ∀ k, k < s.cfg.romCount → s.latch.romDone.getLsbD k = true
  romGood : 9 ≤ s.fast.number → s.fast.number ≤ 16 →
    ∀ k, k < s.cfg.romCount → s.latch.romGood.getLsbD k = true

/-- Where the request lines and CPU-enable can be high: in the state that asserts them, or where escalation left them
(R186 to R194; 92 D25). -/
structure LineDiscipline (s : State) : Prop where
  otpReq : s.out.otpReq = true → s.fast = .otpInit ∨ s.fast = .reqPwrDn
  lcReq : s.out.lcReq = true → s.fast = .lcInit ∨ s.fast = .reqPwrDn
  strap : s.out.strap = true → s.fast = .romCheckDone ∨ s.fast = .reqPwrDn
  cpuEn : s.out.cpuEn = true → s.fast = .active ∨ s.fast = .reqPwrDn

/-- The deliveries that arm a tick (R153). -/
def armsTick (s : State) : Instr → Bool
  | .lineRomGood i l => l && decide (i.toNat < s.cfg.romCount)
  | .lineRomDone i l => l && decide (i.toNat < s.cfg.romCount)
  | .lineLcRsp i l => l && i == 0#8
  | .lineOtpRsp i l => l && i == 0#8
  | .lineEscalate i l => l && i == 0#8
  | .lineHoldFetch i _ => s.cfg.fetchCtrl && i == 0#8
  | .lineRstReq i l => l && decide (i.toNat < s.cfg.resetCount) && s.regs.resetStatus == 0#32 &&
      s.regs.resetEn.getLsbD i.toNat
  | .lineSwRstReq i l => l && i == 0#8 && s.regs.resetStatus == 0#32
  | .reset => true
  | _ => false

/-! ## Runs: which interleavings are admitted (R65, R66, R67) -/

/-- One place of a run: an agent takes an operation, or none moves (R66). The operation is well formed: the framework
does not deliver a bus access that is misaligned or outside the window, and an unmapped one is at no register's offset
(R61, R72, R73, R100), so it is no agent's to take. What the agents outside deliver next and which free value comes next
are theirs, so the model's own two fields may take any value before the operation (log 2, 3). -/
def Move (s : State) : Option Instr → State → Prop
  | some i, t => i.wellFormed s.cfg = true ∧ ∃ ds k, exec i { s with deliveries := ds, freeCount := k } = .next t
  | none, t => ∃ ds k, t = { s with deliveries := ds, freeCount := k }

/-- A run: "the operations of one instance form a single total order" (R65). A run that ends rests from there on. -/
def IsRun (state : Nat → State) (op : Nat → Option Instr) : Prop :=
  ∀ n, Move (state n) (op n) (state (n + 1))

/-- The scheduler is enabled (R66): a tick is pending and the block is not halted. -/
def State.TickEnabled (s : State) : Prop := s.halted = false ∧ s.tickPending = true

/-- The settle timer is enabled (R66). -/
def State.TimerEnabled (s : State) : Prop := s.halted = false ∧ s.cdcTimerArmed = true

/-- Weak fairness (R67): an agent that is enabled from some place on takes its operation at some later place. "No upper
bound is given on the number of other operations between". -/
def Served (Enabled : State → Prop) (i : Instr) (state : Nat → State) (op : Nat → Option Instr) : Prop :=
  ∀ n, (∀ m, n ≤ m → Enabled (state m)) → ∃ m, n ≤ m ∧ op m = some i

/-- The runs that R67 admits (00_scope.md R6): neither a pending tick nor an armed timer waits forever. A halted block has
no enabled agent (R49, R66), so nothing is owed there (DEDUCED, safe, log 15). -/
def Admitted (state : Nat → State) (op : Nat → Option Instr) : Prop :=
  IsRun state op ∧ Served State.TickEnabled .tick state op ∧ Served State.TimerEnabled .timerExpire state op

/-- The operation that a step runs: the delivered word's, or that of the block's own agent. -/
def stepOp (s : State) : Option Instr :=
  match s.deliveries with
  | w :: _ =>
    match decode s.cfg w with
    | .ok i => some i
    | .error _ => none
  | [] => (ownAgent s).map Prod.fst

/-- Apply an update to the next state, if there is one. -/
def mapNext (u : State → State) : Answer → Answer
  | .next t => .next (u t)
  | .fault f => .fault f
  | .refused r => .refused r

/-- An update of a piece of state that operation `i` neither reads nor writes: doing it before or after is the same. -/
def Ignores (i : Instr) (u : State → State) : Prop := ∀ s, exec i (u s) = mapNext u (exec i s)

end Sys2Proof.Machine
end

