-- ==== Sys2Proof/Certificates/Slice0/Obligations.lean ====
section
/-! DEFINITION. The statements for the provers, each a `def Obligations.<Name> : Prop` listed in OBLIGATIONS.json. A
statement whose rule carries a "[decision: …]" or "[derived: …]" mark of the spec has basis `derived`, and its docstring
names the decision. An equation `exec i s = .next {s with …}` is at once the result of the operation, its completion and
its frame: every field not named is unchanged. -/

open Sys2Proof Sys2Proof.Machine

/-! ## Encoding -/

/-- R84, R85 (92 D37): the word of every well-formed operation decodes to it, in every well-formed configuration. -/
def Obligations.DecodeUndoesEncode : Prop :=
  ∀ (c : Config) (i : Instr), c.wellFormed = true → i.wellFormed c = true → decode c (encode i) = .ok i

/-- R84, R85 (92 D37): a word that decodes is the word of what it decodes to, so no two words spell one operation and
no bit of a word is dropped; and what it decodes to is well formed. -/
def Obligations.EncodeUndoesDecode : Prop :=
  ∀ (c : Config) (w : OpWord) (i : Instr), c.wellFormed = true → decode c w = .ok i →
    encode i = w ∧ i.wellFormed c = true

/-- R85, R86, R61, R73 (92 D5, D37): exactly these words are refused, told by the word's bits. -/
def Obligations.RefusedWordsAreExactlyThese : Prop :=
  ∀ (c : Config) (w : OpWord), (∃ e, decode c w = .error e) ↔
    (6 ≤ (w.extractLsb' 61 3).toNat ∨ w.extractLsb' 56 5 ≠ 0#5 ∨
    (w.extractLsb' 61 3 ≠ 2#3 ∧ w.extractLsb' 48 8 ≠ 0#8) ∨
    (w.extractLsb' 61 3 = 2#3 ∧ (w.extractLsb' 40 8 ≠ 0#8 ∨ w.extractLsb' 1 31 ≠ 0#31)) ∨
    (w.extractLsb' 61 3 = 0#3 ∧ w.extractLsb' 0 32 ≠ 0#32) ∨
    (3 ≤ (w.extractLsb' 61 3).toNat ∧ w.extractLsb' 0 48 ≠ 0#48) ∨
    ((w.extractLsb' 61 3).toNat ≤ 1 ∧ (w.extractLsb' 32 16).toNat % 4 ≠ 0) ∨
    ((w.extractLsb' 61 3).toNat ≤ 1 ∧ c.mmioSize ≤ (w.extractLsb' 32 16).toNat) ∨
    (w.extractLsb' 61 3 = 2#3 ∧ 8 < (w.extractLsb' 48 8).toNat))

/-- 95_test_vectors.md, the words of its quick reference and programs (92 D37): a sanity statement. -/
def Obligations.SampleWordsDecode : Prop :=
  decode Config.testTA 0x0000003000000000#64 = .ok .readResetStatus ∧
  decode Config.testTA 0x2000002C00000001#64 = .ok (.writeResetEn 1#32) ∧
  decode Config.testTA 0x4006000000000001#64 = .ok (.lineOtpRsp 0#8 true) ∧
  decode Config.testTA 0x6000000000000000#64 = .ok .tick ∧
  decode Config.testTA 0x8000000000000000#64 = .ok .timerExpire ∧
  decode Config.testTA 0xA000000000000000#64 = .ok .reset ∧
  decode Config.testTA 0x0000004400000000#64 = .ok (.readUnmapped 0x44#16)

/-- R65, R85, R86: the step of a block with a word delivered is the operation the word spells, the word gone; a word
that spells none is refused. The deliveries are the model's own field (log 2). -/
def Obligations.StepRunsTheDeliveredOperation : Prop :=
  ∀ (s : State) (w : OpWord) (rest : List OpWord), s.deliveries = w :: rest →
    (∀ i, decode s.cfg w = .ok i → step s = exec i { s with deliveries := rest }) ∧
    (∀ e, decode s.cfg w = .error e → step s = .refused (.notAnOperation e))

/-- R66, the scheduler and the settle timer (log 3): with nothing delivered an enabled agent of the block's own moves,
either one when both are enabled, and a block with neither waits. The choice is the model's free value. -/
def Obligations.OwnAgentsMoveWhenNothingIsDelivered : Prop :=
  ∀ s : State, s.deliveries = [] →
    (s.tickPending = true → s.cdcTimerArmed = false → step s = exec .tick s) ∧
    (s.tickPending = false → s.cdcTimerArmed = true → step s = exec .timerExpire s) ∧
    (s.tickPending = true → s.cdcTimerArmed = true → ∃ i, (i = .tick ∨ i = .timerExpire) ∧
      step s = exec i { s with freeCount := s.freeCount + 1 }) ∧
    (s.tickPending = false → s.cdcTimerArmed = false → s.Ready → step s = .next s)

/-! ## Construction, reset, and when there is no step -/

/-- R8, R242, R270, R271, R272 (92 D9, D30, D32, D33): no block is constructed from an ill-formed configuration; a
well-formed one gives a block in its reset state, and the model's reset state is such a block (log 1). -/
def Obligations.ConstructedStateIsTheResetState : Prop :=
  (∀ c : Config, c.wellFormed = false → State.construct c = .error .illFormedConfiguration) ∧
  (∀ c : Config, c.wellFormed = true → ∃ s, State.construct c = .ok s ∧ s.cfg = c ∧
    (∀ r, s.reg r =
      if r = .ctrlCfgRegwen ∨ r = .wakeupEnRegwen ∨ r = .resetEnRegwen then 1#32
      else if r = .control then c.controlReset else 0#32) ∧
    s.latch = ⟨false, false, false, false, false, false, 0#8, 0#8⟩ ∧
    s.rst.domain = .none ∧ s.slow = .reset ∧ s.fast = .lowPower ∧
    s.tickPending = true ∧ s.cdcTimerArmed = false ∧
    (∀ l, s.out.get l = false) ∧ s.halted = false ∧ s.history = [] ∧ s.results = []) ∧
  State.construct Config.testTA = .ok State.reset

/-- R270 (92 D30, D32): component reset gives every field its reset value, emits one event for each line that was
high, in the order of R270, and leaves the configuration and the records. `rst.cause` is unspecified after it
(R42, log 4): it is whatever the next state says. -/
def Obligations.ComponentResetRestoresEveryField : Prop :=
  encode .reset = 0xA000000000000000#64 ∧
  ∀ s : State, s.Ready → ∃ cause, exec .reset s = .next
    { State.afterReset s.cfg with
      rst := ⟨.none, cause⟩
      history := s.history ++
        ([OutLine.wakeIrq, .alert, .otpReq, .lcReq, .cpuEn, .strap].filter s.out.get).map (Event.line · false)
      results := s.results
      deliveries := s.deliveries
      freeCount := s.freeCount + 1 }

/-- R49, R242 (92 D33, D43): a halted block takes no step, component reset included; nor does one whose configuration
is ill formed. Neither does `step`, whatever is delivered. -/
def Obligations.NoStepWhenHaltedOrIllFormed : Prop :=
  ∀ s : State,
    (s.halted = true → (∀ i, exec i s = .refused .halted) ∧ ∀ t, step s ≠ .next t) ∧
    (s.halted = false → s.cfg.wellFormed = false →
      (∀ i, exec i s = .refused .illFormedConfiguration) ∧ ∀ t, step s ≠ .next t)

/-! ## Bus reads -/

/-- R102, R104, R110, R114, R116, R120, R122, R124, R130, R132, R134: these reads return the stored word with
`is_legal = true` and change no state; under the invariant the words read as the rules' corner cases say. -/
def Obligations.ReadsReturnTheStoredWord : Prop :=
  (∀ s : State, s.Ready →
    exec .readIntrState s = .next { s with results := s.results ++ [⟨s.regs.intrState, true⟩] } ∧
    exec .readIntrEnable s = .next { s with results := s.results ++ [⟨s.regs.intrEnable, true⟩] } ∧
    exec .readCtrlCfgRegwen s = .next { s with results := s.results ++ [⟨s.regs.ctrlCfgRegwen, true⟩] } ∧
    exec .readCfgCdcSync s = .next { s with results := s.results ++ [⟨s.regs.cfgCdcSync, true⟩] } ∧
    exec .readWakeupEnRegwen s = .next { s with results := s.results ++ [⟨s.regs.wakeupEnRegwen, true⟩] } ∧
    exec .readWakeStatus s = .next { s with results := s.results ++ [⟨s.regs.wakeStatus, true⟩] } ∧
    exec .readResetEnRegwen s = .next { s with results := s.results ++ [⟨s.regs.resetEnRegwen, true⟩] } ∧
    exec .readResetEn s = .next { s with results := s.results ++ [⟨s.regs.resetEn, true⟩] } ∧
    exec .readWakeInfoCaptureDis s =
      .next { s with results := s.results ++ [⟨s.regs.wakeInfoCaptureDis, true⟩] } ∧
    exec .readWakeInfo s = .next { s with results := s.results ++ [⟨s.regs.wakeInfo, true⟩] } ∧
    exec .readFaultStatus s = .next { s with results := s.results ++ [⟨s.regs.faultStatus, true⟩] }) ∧
  (∀ s : State, s.Ready → BlockInv s →
    (∀ k, 1 ≤ k → s.regs.intrState.getLsbD k = false ∧ s.regs.intrEnable.getLsbD k = false) ∧
    s.regs.ctrlCfgRegwen = 1#32 ∧ s.regs.wakeStatus = 0#32 ∧ s.regs.wakeInfo = 0#32 ∧
    s.regs.faultStatus = 0#32 ∧
    s.regs.cfgCdcSync = (if s.cdcTimerArmed then 1#32 else 0#32) ∧
    (∀ k, s.cfg.resetCount ≤ k → s.regs.resetEn.getLsbD k = false)) ∧
  (∀ c s, State.construct c = .ok s → s.regs.wakeupEnRegwen = 1#32 ∧ s.regs.resetEnRegwen = 1#32) ∧
  (∀ s t, exec .reset s = .next t → t.regs.wakeupEnRegwen = 1#32 ∧ t.regs.resetEnRegwen = 1#32) ∧
  encode .readIntrState = 0#16 ++ 0x00#16 ++ 0#32 ∧ encode .readIntrEnable = 0#16 ++ 0x04#16 ++ 0#32 ∧
  encode .readCtrlCfgRegwen = 0#16 ++ 0x10#16 ++ 0#32 ∧ encode .readCfgCdcSync = 0#16 ++ 0x18#16 ++ 0#32 ∧
  encode .readWakeupEnRegwen = 0#16 ++ 0x1C#16 ++ 0#32 ∧ encode .readWakeStatus = 0#16 ++ 0x24#16 ++ 0#32 ∧
  encode .readResetEnRegwen = 0#16 ++ 0x28#16 ++ 0#32 ∧ encode .readResetEn = 0#16 ++ 0x2C#16 ++ 0#32 ∧
  encode .readWakeInfoCaptureDis = 0#16 ++ 0x38#16 ++ 0#32 ∧ encode .readWakeInfo = 0#16 ++ 0x3C#16 ++ 0#32 ∧
  encode .readFaultStatus = 0#16 ++ 0x40#16 ++ 0#32

/-- R112 (92 D9), R118 (92 D10), R128 (92 D8), R126 (92 D17): the reads whose rules are the spec's decisions.
RESET_STATUS is masked: with the invariant, bit `k` of the value read is set iff hardware line `k`'s bit is. -/
def Obligations.ReadsRestingOnDecisions : Prop :=
  ∀ s : State, s.Ready →
    exec .readControl s = .next { s with results := s.results ++ [⟨s.regs.control, true⟩] } ∧
    exec .readWakeupEn s = .next { s with results := s.results ++ [⟨s.regs.wakeupEn, true⟩] } ∧
    exec .readEscalateResetStatus s =
      .next { s with results := s.results ++ [⟨s.regs.escalateResetStatus, true⟩] } ∧
    ∃ v, exec .readResetStatus s = .next { s with results := s.results ++ [⟨v, true⟩] } ∧
      ∀ k, v.getLsbD k = (decide (k < s.cfg.resetCount) && s.regs.resetStatus.getLsbD k)

/-- R106, R108 (92 D15): a write-only register reads as 0, legally, with the diagnostic WRITE_ONLY_READ. The code 3 and
the recorded offset are R240's own numbering and column (92 D34, log 8). -/
def Obligations.WriteOnlyRegistersReadZero : Prop :=
  (∀ s : State, s.Ready →
    exec .readIntrTest s = .next { s with
      history := s.history ++ [.diag (.writeOnlyRead 0x08#16)], results := s.results ++ [⟨0#32, true⟩] } ∧
    exec .readAlertTest s = .next { s with
      history := s.history ++ [.diag (.writeOnlyRead 0x0C#16)], results := s.results ++ [⟨0#32, true⟩] }) ∧
  encode .readIntrTest = 0#16 ++ 0x08#16 ++ 0#32 ∧ encode .readAlertTest = 0#16 ++ 0x0C#16 ++ 0#32 ∧
  ∀ offset, (Diag.writeOnlyRead offset).code = 3

/-- R140 (92 D15): an unmapped read returns `(0, false)` with the diagnostic BAD_OFFSET_READ. -/
def Obligations.UnmappedReadIsIllegal : Prop :=
  ∀ (s : State) (offset : BitVec 16), s.Ready →
    exec (.readUnmapped offset) s = .next { s with
      history := s.history ++ [.diag (.badOffsetRead offset)], results := s.results ++ [⟨0#32, false⟩] } ∧
    encode (.readUnmapped offset) = 0#16 ++ offset ++ 0#32

/-! ## Bus writes -/

/-- R103, R105: INTR_STATE is write-1-to-clear and INTR_ENABLE read-write, both masked to bit 0; `wake_irq` follows
their AND, with an event iff it changes. -/
def Obligations.InterruptStateAndEnableWrites : Prop :=
  ∀ (s : State) (data v : Word) (b : Bool), s.Ready →
    (v = s.regs.intrState &&& ~~~(data &&& 1#32) → b = (v &&& s.regs.intrEnable != 0#32) →
      exec (.writeIntrState data) s = .next { s with
        regs := { s.regs with intrState := v }
        out := { s.out with wakeIrq := b }
        history := s.history ++ if s.out.wakeIrq = b then [] else [.line .wakeIrq b] }) ∧
    (v = data &&& 1#32 → b = (s.regs.intrState &&& v != 0#32) →
      exec (.writeIntrEnable data) s = .next { s with
        regs := { s.regs with intrEnable := v }
        out := { s.out with wakeIrq := b }
        history := s.history ++ if s.out.wakeIrq = b then [] else [.line .wakeIrq b] }) ∧
    encode (.writeIntrState data) = 0x2000#16 ++ 0x00#16 ++ data ∧
    encode (.writeIntrEnable data) = 0x2000#16 ++ 0x04#16 ++ data

/-- R107, R136 (92 D7, D30): INTR_TEST accumulates into INTR_STATE, and `wake_irq` follows. -/
def Obligations.InterruptTestWrite : Prop :=
  ∀ (s : State) (data v : Word) (b : Bool), s.Ready →
    v = s.regs.intrState ||| (data &&& 1#32) → b = (v &&& s.regs.intrEnable != 0#32) →
    exec (.writeIntrTest data) s = .next { s with
      regs := { s.regs with intrState := v }
      out := { s.out with wakeIrq := b }
      history := s.history ++ if s.out.wakeIrq = b then [] else [.line .wakeIrq b] } ∧
    encode (.writeIntrTest data) = 0x2000#16 ++ 0x08#16 ++ data

/-- R109 (92 D12): a written bit 0 asserts `alert`, with an event iff it was low; otherwise nothing happens. -/
def Obligations.AlertTestWrite : Prop :=
  ∀ (s : State) (data : Word), s.Ready →
    (data.getLsbD 0 = true → exec (.writeAlertTest data) s = .next { s with
      out := { s.out with alert := true }
      history := s.history ++ if s.out.alert then [] else [.line .alert true] }) ∧
    (data.getLsbD 0 = false → exec (.writeAlertTest data) s = .next s)

/-- R119: WAKEUP_EN is written, masked to `wakeup_count` bits, while its lock is open, and otherwise dropped with the
diagnostic LOCKED_WRITE, whose recorded offset and data are R240's column (92 D34, log 8); and no other operation's
answer depends on the stored value ("has no effect in scope"). -/
def Obligations.WakeupEnableWriteIsGated : Prop :=
  (∀ (s : State) (data v : Word), s.Ready →
    (s.regs.wakeupEnRegwen.getLsbD 0 = true →
      (∀ k, v.getLsbD k = (decide (k < s.cfg.wakeupCount) && data.getLsbD k)) →
      exec (.writeWakeupEn data) s = .next { s with regs := { s.regs with wakeupEn := v } }) ∧
    (s.regs.wakeupEnRegwen.getLsbD 0 = false →
      exec (.writeWakeupEn data) s =
        .next { s with history := s.history ++ [.diag (.lockedWrite 0x20#16 data)] })) ∧
  (∀ data, encode (.writeWakeupEn data) = 0x2000#16 ++ 0x20#16 ++ data) ∧
  ∀ i v, i ≠ .readWakeupEn → (∀ data, i ≠ .writeWakeupEn data) → i ≠ .reset →
    Ignores i (fun s => { s with regs := { s.regs with wakeupEn := v } })

/-- R113, R28 (92 D9): CONTROL is written, masked, while CTRL_CFG_REGWEN is 1, and otherwise dropped with a
diagnostic; no other operation's answer depends on it. -/
def Obligations.ControlWriteIsGatedAndUnread : Prop :=
  (∀ (s : State) (data : Word), s.Ready →
    (s.regs.ctrlCfgRegwen.getLsbD 0 = true →
      exec (.writeControl data) s =
        .next { s with regs := { s.regs with control := data &&& s.cfg.controlMask } }) ∧
    (s.regs.ctrlCfgRegwen.getLsbD 0 = false →
      exec (.writeControl data) s =
        .next { s with history := s.history ++ [.diag (.lockedWrite 0x14#16 data)] })) ∧
  ∀ i v, i ≠ .readControl → (∀ data, i ≠ .writeControl data) → i ≠ .reset →
    Ignores i (fun s => { s with regs := { s.regs with control := v } })

/-- R125, R137 (92 D20): RESET_EN is written, masked to `reset_count` bits, while its lock is open, and otherwise
dropped with a diagnostic. It arms no tick and raises no request. -/
def Obligations.ResetEnableWriteIsGated : Prop :=
  ∀ (s : State) (data v : Word), s.Ready →
    (s.regs.resetEnRegwen.getLsbD 0 = true →
      (∀ k, v.getLsbD k = (decide (k < s.cfg.resetCount) && data.getLsbD k)) →
      exec (.writeResetEn data) s = .next { s with regs := { s.regs with resetEn := v } }) ∧
    (s.regs.resetEnRegwen.getLsbD 0 = false →
      exec (.writeResetEn data) s =
        .next { s with history := s.history ++ [.diag (.lockedWrite 0x2C#16 data)] })

/-- R131 (92 D7): WAKE_INFO_CAPTURE_DIS is read-write in bit 0, and no other operation's answer depends on it. -/
def Obligations.CaptureDisableWriteIsUnread : Prop :=
  (∀ (s : State) (data : Word), s.Ready →
    exec (.writeWakeInfoCaptureDis data) s =
      .next { s with regs := { s.regs with wakeInfoCaptureDis := data &&& 1#32 } }) ∧
  ∀ i v, i ≠ .readWakeInfoCaptureDis → (∀ data, i ≠ .writeWakeInfoCaptureDis data) → i ≠ .reset →
    Ignores i (fun s => { s with regs := { s.regs with wakeInfoCaptureDis := v } })

/-- R111, R121, R127, R129, R135, R138 (92 D7, D40): a write to a read-only register only emits READ_ONLY_WRITE. -/
def Obligations.ReadOnlyWritesAreRejected : Prop :=
  ∀ (s : State) (data : Word), s.Ready →
    exec (.writeCtrlCfgRegwen data) s =
      .next { s with history := s.history ++ [.diag (.readOnlyWrite 0x10#16 data)] } ∧
    exec (.writeWakeStatus data) s =
      .next { s with history := s.history ++ [.diag (.readOnlyWrite 0x24#16 data)] } ∧
    exec (.writeResetStatus data) s =
      .next { s with history := s.history ++ [.diag (.readOnlyWrite 0x30#16 data)] } ∧
    exec (.writeEscalateResetStatus data) s =
      .next { s with history := s.history ++ [.diag (.readOnlyWrite 0x34#16 data)] } ∧
    exec (.writeFaultStatus data) s =
      .next { s with history := s.history ++ [.diag (.readOnlyWrite 0x40#16 data)] }

/-- R117, R123 (92 D7): a lock register keeps a bit only where a 1 is written to it (its mask is bit 0), so writing 0
clears EN and writing 1 leaves it. -/
def Obligations.LockRegisterWrites : Prop :=
  ∀ (s : State) (data : Word), s.Ready →
    exec (.writeWakeupEnRegwen data) s = .next { s with
      regs := { s.regs with wakeupEnRegwen := s.regs.wakeupEnRegwen &&& (data &&& 1#32) } } ∧
    exec (.writeResetEnRegwen data) s = .next { s with
      regs := { s.regs with resetEnRegwen := s.regs.resetEnRegwen &&& (data &&& 1#32) } }

/-- R115 (92 D11): SYNC is write-1-to-set; a written 1 arms the settle timer, a written 0 changes nothing. -/
def Obligations.CdcSyncWriteArmsTheTimer : Prop :=
  ∀ (s : State) (data : Word), s.Ready →
    (data.getLsbD 0 = true → exec (.writeCfgCdcSync data) s = .next { s with
      regs := { s.regs with cfgCdcSync := s.regs.cfgCdcSync ||| 1#32 }, cdcTimerArmed := true }) ∧
    (data.getLsbD 0 = false → exec (.writeCfgCdcSync data) s = .next s)

/-- R133 (92 D7, D10): WAKE_INFO is write-1-to-clear in its low `wakeup_count + 2` bits. -/
def Obligations.WakeInfoWriteClearsBits : Prop :=
  ∀ (s : State) (data v : Word), s.Ready →
    (∀ k, v.getLsbD k =
      (s.regs.wakeInfo.getLsbD k && !(decide (k < s.cfg.wakeupCount + 2) && data.getLsbD k))) →
    exec (.writeWakeInfo data) s = .next { s with regs := { s.regs with wakeInfo := v } }

/-- R141: an unmapped write only emits BAD_OFFSET_WRITE; no state changes. The code 2 and the recorded offset and data
are R240's own numbering and column (92 D34, log 8). -/
def Obligations.UnmappedWriteChangesNothing : Prop :=
  ∀ (s : State) (offset : BitVec 16) (data : Word), s.Ready →
    exec (.writeUnmapped offset data) s =
      .next { s with history := s.history ++ [.diag (.badOffsetWrite offset data)] } ∧
    encode (.writeUnmapped offset data) = 0x2000#16 ++ offset ++ data ∧
    (Diag.badOffsetWrite offset data).code = 2 ∧
    ((Instr.writeUnmapped offset data).wellFormed s.cfg = true ↔
      offset.toNat % 4 = 0 ∧ 0x44 ≤ offset.toNat ∧ offset.toNat < s.cfg.mmioSize)

/-! ## Line deliveries -/

/-- R150, R151 (92 D20): level 1 on a ROM line within range sets that channel's bit alone and arms a tick; level 0
changes nothing. -/
def Obligations.RomLinesLatchTheirChannel : Prop :=
  ∀ (s : State) (index : BitVec 8) (v : BitVec 8), s.Ready → index.toNat < s.cfg.romCount →
    ((∀ k, k < 8 → v.getLsbD k = (s.latch.romGood.getLsbD k || decide (k = index.toNat))) →
      exec (.lineRomGood index true) s =
        .next { s with latch := { s.latch with romGood := v }, tickPending := true }) ∧
    ((∀ k, k < 8 → v.getLsbD k = (s.latch.romDone.getLsbD k || decide (k = index.toNat))) →
      exec (.lineRomDone index true) s =
        .next { s with latch := { s.latch with romDone := v }, tickPending := true }) ∧
    exec (.lineRomGood index false) s = .next s ∧ exec (.lineRomDone index false) s = .next s

/-- R154 (92 D23): a wakeup line within range is diagnostic only. -/
def Obligations.WakeupLineIsDiagnosticOnly : Prop :=
  ∀ (s : State) (index : BitVec 8), s.Ready → index.toNat < s.cfg.wakeupCount →
    exec (.lineWakeup index true) s =
      .next { s with history := s.history ++ [.diag (.wakeupIgnored index)] } ∧
    exec (.lineWakeup index false) s = .next s

/-- R155, R156, R248 (92 D18, D19, D20, D41): a hardware reset request, with its checks in order. An accepted one sets
its RESET_STATUS bit and the latch flag, makes the request pending for the fast domain with the line's cause, and arms
a tick. -/
def Obligations.HardwareResetRequest : Prop :=
  ∀ (s : State) (index : BitVec 8), s.Ready →
    (∀ level, s.cfg.resetCount ≤ index.toNat → exec (.lineRstReq index level) s =
      .next { s with history := s.history ++ [.diag (.resetLineUnmapped index)] }) ∧
    (index.toNat < s.cfg.resetCount → exec (.lineRstReq index false) s = .next s) ∧
    (index.toNat < s.cfg.resetCount → s.regs.resetStatus ≠ 0#32 → exec (.lineRstReq index true) s =
      .next { s with history := s.history ++ [.diag (.resetOngoing .rstReq index)] }) ∧
    (index.toNat < s.cfg.resetCount → s.regs.resetStatus = 0#32 →
      s.regs.resetEn.getLsbD index.toNat = false → exec (.lineRstReq index true) s =
      .next { s with history := s.history ++ [.diag (.resetLineDisabled index)] }) ∧
    (index.toNat < s.cfg.resetCount → s.regs.resetStatus = 0#32 →
      s.regs.resetEn.getLsbD index.toNat = true →
      ∃ cause, s.cfg.resetDispatch[index.toNat]? = some cause ∧
        exec (.lineRstReq index true) s = .next { s with
          regs := { s.regs with resetStatus := 1#32 <<< index.toNat }
          latch := { s.latch with hwResetRequested := true }
          rst := ⟨.fast, cause⟩
          tickPending := true })

/-- R155, R157 (92 D17, D18, D19): a software reset request, which RESET_EN does not gate and which takes the hidden
bit. -/
def Obligations.SoftwareResetRequest : Prop :=
  ∀ s : State, s.Ready →
    exec (.lineSwRstReq 0#8 false) s = .next s ∧
    (s.regs.resetStatus ≠ 0#32 → exec (.lineSwRstReq 0#8 true) s =
      .next { s with history := s.history ++ [.diag (.resetOngoing .swRstReq 0#8)] }) ∧
    (s.regs.resetStatus = 0#32 → exec (.lineSwRstReq 0#8 true) s = .next { s with
      regs := { s.regs with resetStatus := 1#32 <<< s.cfg.resetCount }
      latch := { s.latch with swResetRequested := true }
      rst := ⟨.fast, s.cfg.swResetCause⟩
      tickPending := true })

/-- R158, R159 (92 D20): a response is latched in any state and arms a tick; level 0 changes nothing. -/
def Obligations.ResponseLinesAreLatched : Prop :=
  ∀ s : State, s.Ready →
    exec (.lineLcRsp 0#8 true) s =
      .next { s with latch := { s.latch with lcDone := true }, tickPending := true } ∧
    exec (.lineOtpRsp 0#8 true) s =
      .next { s with latch := { s.latch with otpDone := true }, tickPending := true } ∧
    exec (.lineLcRsp 0#8 false) s = .next s ∧ exec (.lineOtpRsp 0#8 false) s = .next s

/-- R160 (92 D8, D20): escalation is latched and shown in ESCALATE_RESET_STATUS, and arms a tick; the FSM does not
change here. -/
def Obligations.EscalationIsLatchedAndShown : Prop :=
  ∀ s : State, s.Ready →
    exec (.lineEscalate 0#8 true) s = .next { s with
      latch := { s.latch with escalate := true }
      regs := { s.regs with escalateResetStatus := 1#32 }
      tickPending := true } ∧
    exec (.lineEscalate 0#8 false) s = .next s

/-- R161 (92 D21): with fetch control on, `hold_fetch` takes the level and a tick is armed, at either level; with it
off there is only a diagnostic. -/
def Obligations.FetchHoldFollowsTheLevel : Prop :=
  ∀ (s : State) (level : Bool), s.Ready →
    (s.cfg.fetchCtrl = true → exec (.lineHoldFetch 0#8 level) s =
      .next { s with latch := { s.latch with holdFetch := level }, tickPending := true }) ∧
    (s.cfg.fetchCtrl = false → exec (.lineHoldFetch 0#8 level) s =
      .next { s with history := s.history ++ [.diag (.fetchCtrlDisabled level)] })

/-- R162 (92 D22): an index outside its port's range is delivered and only reported, whatever the level. -/
def Obligations.OutOfRangeIndexIsReported : Prop :=
  ∀ (s : State) (index : BitVec 8) (level : Bool), s.Ready →
    (s.cfg.romCount ≤ index.toNat →
      exec (.lineRomGood index level) s =
        .next { s with history := s.history ++ [.diag (.indexOutOfRange .romGood index)] } ∧
      exec (.lineRomDone index level) s =
        .next { s with history := s.history ++ [.diag (.indexOutOfRange .romDone index)] }) ∧
    (s.cfg.wakeupCount ≤ index.toNat → exec (.lineWakeup index level) s =
      .next { s with history := s.history ++ [.diag (.indexOutOfRange .wakeup index)] }) ∧
    (index ≠ 0#8 →
      exec (.lineSwRstReq index level) s =
        .next { s with history := s.history ++ [.diag (.indexOutOfRange .swRstReq index)] } ∧
      exec (.lineLcRsp index level) s =
        .next { s with history := s.history ++ [.diag (.indexOutOfRange .lcRsp index)] } ∧
      exec (.lineOtpRsp index level) s =
        .next { s with history := s.history ++ [.diag (.indexOutOfRange .otpRsp index)] } ∧
      exec (.lineEscalate index level) s =
        .next { s with history := s.history ++ [.diag (.indexOutOfRange .escalate index)] } ∧
      exec (.lineHoldFetch index level) s =
        .next { s with history := s.history ++ [.diag (.indexOutOfRange .holdFetch index)] })

/-! ## The tick -/

/-- R180 (92 D24), R66: TICK is enabled iff a tick is pending. -/
def Obligations.TickNeedsAPendingTick : Prop :=
  encode .tick = 0x6000000000000000#64 ∧
  (∀ s : State, s.Ready → s.tickPending = false → exec .tick s = .refused .tickNotPending) ∧
  ∀ (s : State) (r : Refusal), s.Ready → s.tickPending = true → exec .tick s ≠ .refused r

/-- R184, R185, R189, R195: these states advance on every tick, with no action, and the next tick is armed. `LowPower`
does so right after the slow step of the first tick too. -/
def Obligations.UnconditionalStatesAdvance : Prop :=
  (∀ s : State, s.Ready → s.tickPending = true → s.slow = .reset ∨ s.slow = .idle →
    s.latch.escalate = false → s.fast = .lowPower →
    exec .tick s = .next { s with slow := .idle, fast := .enableClocks }) ∧
  ∀ s : State, s.TableTickDue →
    (s.fast = .enableClocks → exec .tick s = .next { s with fast := .releaseLcReset }) ∧
    (s.fast = .ackPwrUp → exec .tick s = .next { s with fast := .strap }) ∧
    (s.fast = .disClocks → exec .tick s = .next { s with fast := .resetPrep })

/-- R186, R190: these states assert a request line, with an event iff it was low, and advance. -/
def Obligations.RequestStatesAssertTheirLine : Prop :=
  ∀ s : State, s.TableTickDue →
    (s.fast = .releaseLcReset → exec .tick s = .next { s with
      fast := .otpInit
      out := { s.out with otpReq := true }
      history := s.history ++ if s.out.otpReq then [] else [.line .otpReq true] }) ∧
    (s.fast = .strap → exec .tick s = .next { s with
      fast := .romCheckDone
      out := { s.out with strap := true }
      history := s.history ++ if s.out.strap then [] else [.line .strap true] })

/-- R187, R188: the OTP and life-cycle handshakes wait for their response, then drop their request line (the OTP state
raising the life-cycle request after that) and advance; without it, nothing changes and no tick is armed. -/
def Obligations.HandshakeStatesWaitForTheirResponse : Prop :=
  ∀ s : State, s.TableTickDue →
    (s.fast = .otpInit → s.latch.otpDone = true → exec .tick s = .next { s with
      fast := .lcInit
      out := { s.out with otpReq := false, lcReq := true }
      history := s.history ++ (if s.out.otpReq then [.line .otpReq false] else []) ++
        if s.out.lcReq then [] else [.line .lcReq true] }) ∧
    (s.fast = .otpInit → s.latch.otpDone = false → exec .tick s = .next { s with tickPending := false }) ∧
    (s.fast = .lcInit → s.latch.lcDone = true → exec .tick s = .next { s with
      fast := .ackPwrUp
      out := { s.out with lcReq := false }
      history := s.history ++ if s.out.lcReq then [.line .lcReq false] else [] }) ∧
    (s.fast = .lcInit → s.latch.lcDone = false → exec .tick s = .next { s with tickPending := false })

/-- R191, R192: the ROM states wait until every configured channel is done, and then until every one is good and the
fetch hold is off; otherwise nothing changes and no tick is armed. -/
def Obligations.RomStatesWaitForEveryChannel : Prop :=
  ∀ s : State, s.TableTickDue →
    (s.fast = .romCheckDone → (∀ k, k < s.cfg.romCount → s.latch.romDone.getLsbD k = true) →
      exec .tick s = .next { s with
        fast := .romCheckGood
        out := { s.out with strap := false }
        history := s.history ++ if s.out.strap then [.line .strap false] else [] }) ∧
    (s.fast = .romCheckDone → (∃ k, k < s.cfg.romCount ∧ s.latch.romDone.getLsbD k = false) →
      exec .tick s = .next { s with tickPending := false }) ∧
    (s.fast = .romCheckGood → (∀ k, k < s.cfg.romCount → s.latch.romGood.getLsbD k = true) →
      s.latch.holdFetch = false → exec .tick s = .next { s with fast := .active }) ∧
    (s.fast = .romCheckGood →
      (∃ k, k < s.cfg.romCount ∧ s.latch.romGood.getLsbD k = false) ∨ s.latch.holdFetch = true →
      exec .tick s = .next { s with tickPending := false })

/-- R193, R194 (92 D17, D39): `Active` asserts CPU-enable and stays, arming no tick, while no request is in flight;
with one, it drops CPU-enable and leaves for `DisClocks`. -/
def Obligations.ActiveEnablesTheCpuUntilAReset : Prop :=
  ∀ s : State, s.TableTickDue → s.fast = .active →
    (s.regs.resetStatus = 0#32 → exec .tick s = .next { s with
      tickPending := false
      out := { s.out with cpuEn := true }
      history := s.history ++ if s.out.cpuEn then [] else [.line .cpuEn true] }) ∧
    (s.regs.resetStatus ≠ 0#32 → exec .tick s = .next { s with
      fast := .disClocks
      out := { s.out with cpuEn := false }
      history := s.history ++ if s.out.cpuEn then [.line .cpuEn false] else [] })

/-- R196, R197, R198, R199 (92 D27): the unimplemented low-power states fall through to `ResetPrep` with a
diagnostic. -/
def Obligations.UnimplementedStatesFallThrough : Prop :=
  ∀ s : State, s.TableTickDue →
    s.fast = .fallThrough ∨ s.fast = .nvmIdleChk ∨ s.fast = .lowPowerPrep ∨ s.fast = .nvmShutDown →
    exec .tick s = .next { s with
      fast := .resetPrep, history := s.history ++ [.diag (.unimplementedMode s.fast)] }

/-- R200 (92 D28), R42: `ResetPrep` hands the pending request to the reset manager and clears its domain, RESET_STATUS
standing; with none pending it emits nothing. `rst.cause` is unspecified afterwards (log 4). -/
def Obligations.ResetPrepDispatchesTheRequest : Prop :=
  ∀ s : State, s.TableTickDue → s.fast = .resetPrep →
    (s.rst.domain ≠ .none → ∃ cause, exec .tick s = .next { s with
      fast := .resetWait
      rst := ⟨.none, cause⟩
      freeCount := s.freeCount + 1
      history := s.history ++ [.resetReq s.rst.domain s.rst.cause] }) ∧
    (s.rst.domain = .none → exec .tick s = .next { s with fast := .resetWait })

/-- R201, R202 (92 D25): `ResetWait` without an escalation, and `ReqPwrDn` with or without, do not move and arm
nothing. -/
def Obligations.TerminalStatesStay : Prop :=
  ∀ s : State, s.Ready → s.tickPending = true → s.slow = .idle →
    (s.fast = .resetWait ∧ s.latch.escalate = false) ∨ s.fast = .reqPwrDn →
    exec .tick s = .next { s with tickPending := false }

/-- R181, R203, R245 (92 D29): a tick in an unimplemented slow state, or in the fast state `Invalid` without an
escalation, is a model fault. -/
def Obligations.UnreachableStatesFault : Prop :=
  (∀ s : State, s.Ready → s.tickPending = true → s.slow ≠ .reset → s.slow ≠ .idle →
    exec .tick s = .fault .unreachableSlowState) ∧
  ∀ s : State, s.Ready → s.tickPending = true → s.slow = .reset ∨ s.slow = .idle →
    s.latch.escalate = false → s.fast = .invalid → exec .tick s = .fault .unreachableFastState

/-- R182, R207, R248 (92 D24, D25, D26): from every other fast state, the first tick with `escalate` latched leads to
`ReqPwrDn`, no output line or request changing; a main instance shuts the system down and halts. -/
def Obligations.EscalationOverridesEveryState : Prop :=
  ∀ s : State, s.Ready → s.tickPending = true → s.slow = .reset ∨ s.slow = .idle →
    s.latch.escalate = true → s.fast ≠ .reqPwrDn →
    (s.cfg.main = false → exec .tick s = .next { s with slow := .idle, fast := .reqPwrDn }) ∧
    (s.cfg.main = true → exec .tick s = .next { s with
      slow := .idle, fast := .reqPwrDn, halted := true, history := s.history ++ [.fatalShutdown] })

/-! ## The settle timer -/

/-- R230 (92 D11): an armed timer's expiry clears SYNC and the timer, touching nothing else and arming no tick; an
unarmed timer has none. -/
def Obligations.SettleTimerClearsSync : Prop :=
  encode .timerExpire = 0x8000000000000000#64 ∧
  ∀ (s : State) (v : Word), s.Ready →
    (s.cdcTimerArmed = true → v.getLsbD 0 = false →
      (∀ k, 1 ≤ k → v.getLsbD k = s.regs.cfgCdcSync.getLsbD k) →
      exec .timerExpire s = .next { s with
        regs := { s.regs with cfgCdcSync := v }, cdcTimerArmed := false }) ∧
    (s.cdcTimerArmed = false → exec .timerExpire s = .refused .timerNotArmed)

/-! ## The whole machine -/

/-- R8, R22, R27, R32, R35, R38, R39, R40, R42, R44, R45, R53, R202: every step keeps the invariant, from every state that
meets it. -/
def Obligations.StepKeepsTheInvariant : Prop :=
  ∀ s t : State, BlockInv s → step s = .next t → BlockInv t

/-- R8, R242, R271: a constructed block meets the invariant, and with it the boot evidence and the line discipline; the
reset state is one. -/
def Obligations.ConstructedStateMeetsTheInvariant : Prop :=
  (∀ (c : Config) (s : State), State.construct c = .ok s →
    BlockInv s ∧ BootEvidence s ∧ LineDiscipline s) ∧
  State.construct Config.testTA = .ok State.reset

/-- R245 (92 D29): no model fault is reached from the invariant, by `step` or by any operation. -/
def Obligations.NoFaultUnderTheInvariant : Prop :=
  ∀ (s : State) (f : Fault), BlockInv s → step s ≠ .fault f ∧ ∀ i, exec i s ≠ .fault f

/-- R204, R273 (90 C8, C9): every step keeps the evidence behind the boot states: no run gets past a handshake or a ROM
check without the responses it waits for. -/
def Obligations.StepKeepsBootEvidence : Prop :=
  ∀ s t : State, BootEvidence s → step s = .next t → BootEvidence t

/-- R186 to R194, R270 (92 D25): every step keeps the discipline of the request lines; in particular CPU-enable is high
only in `Active` or where escalation left it. -/
def Obligations.StepKeepsLineDiscipline : Prop :=
  ∀ s t : State, LineDiscipline s → step s = .next t → LineDiscipline t

/-- R21, R48, and 42_fsm_tick.md's opening (92 D36): no operation but TICK and RESET moves `slow` or `fast`, halts the
block, drives a request line, or emits a ResetReq or FatalShutdown. -/
def Obligations.OnlyTickAndResetMoveTheFsm : Prop :=
  ∀ (i : Instr) (s t : State), i ≠ .tick → i ≠ .reset → exec i s = .next t →
    t.slow = s.slow ∧ t.fast = s.fast ∧ t.halted = s.halted ∧
    t.out.otpReq = s.out.otpReq ∧ t.out.lcReq = s.out.lcReq ∧ t.out.cpuEn = s.out.cpuEn ∧
    t.out.strap = s.out.strap ∧
    ∃ es, t.history = s.history ++ es ∧
      ∀ e ∈ es, (∃ d, e = .diag d) ∨ (∃ b, e = .line .wakeIrq b) ∨ e = .line .alert true

/-- R100, R101 and 40_register_access.md's opening (92 D14, D16): a bus access always completes, and never touches the
latch, the FSM, the request, the pending tick or `halted`; a read changes no register, timer or line either. -/
def Obligations.BusAccessesCompleteAndSpareTheFsm : Prop :=
  ∀ (i : Instr) (s : State), s.Ready → isRead i = true ∨ isWrite i = true →
    ∃ t, exec i s = .next t ∧ t.cfg = s.cfg ∧ t.latch = s.latch ∧ t.rst = s.rst ∧ t.slow = s.slow ∧
      t.fast = s.fast ∧ t.tickPending = s.tickPending ∧ t.halted = s.halted ∧
      t.deliveries = s.deliveries ∧ t.freeCount = s.freeCount ∧
      (isWrite i = true → t.results = s.results) ∧
      (isRead i = true → t.regs = s.regs ∧ t.out = s.out ∧ t.cdcTimerArmed = s.cdcTimerArmed ∧
        ∃ r, t.results = s.results ++ [r])

/-- R153 (a derived rule; 92 D16, D20, D21), R270: exactly the deliveries it lists, and component reset, arm a tick; no operation
but TICK disarms one. -/
def Obligations.TickIsArmedByTheseDeliveriesAlone : Prop :=
  ∀ (i : Instr) (s t : State), i ≠ .tick → exec i s = .next t →
    t.tickPending = (s.tickPending || armsTick s i)

/-- R41, R163 (a derived rule): no operation but RESET clears an edge-type latch bit or ESCALATE_RESET_STATUS, and
`hold_fetch` changes only by a fetch-hold delivery. -/
def Obligations.LatchIsStickyUntilReset : Prop :=
  ∀ (i : Instr) (s t : State), i ≠ .reset → exec i s = .next t →
    (s.latch.hwResetRequested = true → t.latch.hwResetRequested = true) ∧
    (s.latch.swResetRequested = true → t.latch.swResetRequested = true) ∧
    (s.latch.otpDone = true → t.latch.otpDone = true) ∧
    (s.latch.lcDone = true → t.latch.lcDone = true) ∧
    (s.latch.escalate = true → t.latch.escalate = true) ∧
    s.latch.romGood &&& t.latch.romGood = s.latch.romGood ∧
    s.latch.romDone &&& t.latch.romDone = s.latch.romDone ∧
    (s.regs.escalateResetStatus = 1#32 → t.regs.escalateResetStatus = 1#32) ∧
    ((∀ index level, i ≠ .lineHoldFetch index level) → t.latch.holdFetch = s.latch.holdFetch)

/-- R43, R164 (derived rules): once RESET_STATUS is non-zero no operation but RESET changes it, and the pending request
changes only when `ResetPrep`'s tick hands it over. -/
def Obligations.AtMostOneResetRequest : Prop :=
  ∀ (i : Instr) (s t : State), i ≠ .reset → s.regs.resetStatus ≠ 0#32 → exec i s = .next t →
    t.regs.resetStatus = s.regs.resetStatus ∧
    (t.rst = s.rst ∨
      i = .tick ∧ s.fast = .resetPrep ∧ t.rst.domain = .none ∧
        .resetReq s.rst.domain s.rst.cause ∈ t.history)

/-- R142, R286 (derived rules): once a lock's EN bit is clear, no operation but RESET sets it again or changes the
register it protects. -/
def Obligations.LocksHoldUntilReset : Prop :=
  ∀ (i : Instr) (s t : State), i ≠ .reset → exec i s = .next t →
    (s.regs.wakeupEnRegwen.getLsbD 0 = false →
      t.regs.wakeupEnRegwen.getLsbD 0 = false ∧ t.regs.wakeupEn = s.regs.wakeupEn) ∧
    (s.regs.resetEnRegwen.getLsbD 0 = false →
      t.regs.resetEnRegwen.getLsbD 0 = false ∧ t.regs.resetEn = s.regs.resetEn) ∧
    (s.regs.ctrlCfgRegwen.getLsbD 0 = false →
      t.regs.ctrlCfgRegwen.getLsbD 0 = false ∧ t.regs.control = s.regs.control)

/-- R64 (92 D14): writing the same word twice in a row leaves the state of writing it once, but for the history. -/
def Obligations.BusWritesAreIdempotent : Prop :=
  ∀ (i : Instr) (s t : State), isWrite i = true → exec i s = .next t →
    ∃ h, exec i t = .next { t with history := h }

/-- R50, R75: no operation changes the configuration, and what the block has emitted or answered is never taken back.
The configuration's place in State is the model's (log 1). -/
def Obligations.ConfigurationAndRecordsStand : Prop :=
  ∀ (i : Instr) (s t : State), exec i s = .next t →
    t.cfg = s.cfg ∧ s.history <+: t.history ∧ s.results <+: t.results

/-- R206, R204 (derived rules; 92 D24): with every boot input latched, no request, hold or escalation, no timer armed
and nothing delivered, exactly ten steps of the scheduler lead from the state of a fresh reset to `Active` with
CPU-enable asserted and no tick pending, with these seven events in this order. -/
def Obligations.BootTakesTenTicks : Prop :=
  ∀ s : State, s.Ready → s.deliveries = [] → s.cdcTimerArmed = false → s.tickPending = true →
    s.slow = .reset → s.fast = .lowPower → s.out = ⟨s.out.wakeIrq, s.out.alert, false, false, false, false⟩ →
    s.regs.resetStatus = 0#32 → s.latch.escalate = false → s.latch.holdFetch = false →
    s.latch.otpDone = true → s.latch.lcDone = true →
    (∀ k, k < s.cfg.romCount → s.latch.romDone.getLsbD k = true ∧ s.latch.romGood.getLsbD k = true) →
    (∀ n, n ≤ 9 → ∃ t, core.run n s = .next t ∧ t.fast.number = n ∧ t.tickPending = true) ∧
    core.run 10 s = .next { s with
      slow := .idle
      fast := .active
      tickPending := false
      out := { s.out with cpuEn := true }
      history := s.history ++ [.line .otpReq true, .line .otpReq false, .line .lcReq true, .line .lcReq false,
        .line .strap true, .line .strap false, .line .cpuEn true] }

/-- R284, R285, R200, R208 (92 D2, D17, D42): from `Active` with CPU-enable high and a request pending, four steps of the
scheduler dispatch it once and come to rest in `ResetWait`. -/
def Obligations.PendingResetReachesResetWait : Prop :=
  ∀ s : State, s.TableTickDue → s.deliveries = [] → s.cdcTimerArmed = false → s.fast = .active →
    s.out.cpuEn = true → s.regs.resetStatus ≠ 0#32 → s.rst.domain ≠ .none →
    ∃ cause, core.run 4 s = .next { s with
      fast := .resetWait
      tickPending := false
      out := { s.out with cpuEn := false }
      rst := ⟨.none, cause⟩
      freeCount := s.freeCount + 1
      history := s.history ++ [.line .cpuEn false, .resetReq s.rst.domain s.rst.cause] }
end

