-- ==== Sys2Proof/Laws/Decode.lean ====
section
/-! SUPPORT. The laws of the operation word: each field of an assembled word is what was put there, and a word is
assembled from its fields. -/

namespace Sys2Proof

theorem word_ext {w v : OpWord} (h : ∀ k, k < 64 → w.getLsbD k = v.getLsbD k) : w = v :=
  BitVec.eq_of_getLsbD_eq h

/-- The bits of an assembled word, field by field (R84). -/
theorem getLsbD_assemble (kind : BitVec 3) (port : BitVec 8) (offset : BitVec 16) (data : Word) (k : Nat) :
    (assemble kind port offset data).getLsbD k =
      if k < 32 then data.getLsbD k
      else if k < 48 then offset.getLsbD (k - 32)
      else if k < 56 then port.getLsbD (k - 48)
      else if k < 61 then false
      else kind.getLsbD (k - 61) := by
  simp only [assemble, BitVec.getLsbD_append]
  grind

section
variable (kind : BitVec 3) (port : BitVec 8) (offset : BitVec 16) (data : Word)

@[simp] theorem kindField_assemble : kindField (assemble kind port offset data) = kind := by
  refine BitVec.eq_of_getLsbD_eq fun k hk => ?_
  simp only [kindField, BitVec.getLsbD_extractLsb', getLsbD_assemble, hk]
  grind

@[simp] theorem reservedField_assemble : reservedField (assemble kind port offset data) = 0#5 := by
  refine BitVec.eq_of_getLsbD_eq fun k hk => ?_
  simp only [reservedField, BitVec.getLsbD_extractLsb', getLsbD_assemble, hk]
  grind

@[simp] theorem portField_assemble : portField (assemble kind port offset data) = port := by
  refine BitVec.eq_of_getLsbD_eq fun k hk => ?_
  simp only [portField, BitVec.getLsbD_extractLsb', getLsbD_assemble, hk]
  grind

@[simp] theorem offsetField_assemble : offsetField (assemble kind port offset data) = offset := by
  refine BitVec.eq_of_getLsbD_eq fun k hk => ?_
  simp only [offsetField, BitVec.getLsbD_extractLsb', getLsbD_assemble, hk]
  grind

@[simp] theorem dataField_assemble : dataField (assemble kind port offset data) = data := by
  refine BitVec.eq_of_getLsbD_eq fun k hk => ?_
  simp only [dataField, BitVec.getLsbD_extractLsb', getLsbD_assemble, hk]
  grind

end

/-- A word whose reserved bits are 0 is assembled from its fields. -/
theorem assemble_fields {w : OpWord} (h : reservedField w = 0#5) :
    assemble (kindField w) (portField w) (offsetField w) (dataField w) = w := by
  refine word_ext fun k hk => ?_
  have hr : ∀ j, j < 5 → w.getLsbD (56 + j) = false := fun j hj => by
    have := congrArg (·.getLsbD j) h
    simpa [reservedField, hj] using this
  simp only [getLsbD_assemble, kindField, portField, offsetField, dataField, BitVec.getLsbD_extractLsb']
  split
  · simp_all
  · split
    · grind
    · split
      · grind
      · split
        · have := hr (k - 56) (by omega)
          grind
        · grind

/-! ## Line words -/

section
variable (p : Port) (index : BitVec 8) (level : Bool)

@[simp] theorem kindField_encodeLine : kindField (encodeLine p index level) = 2#3 := kindField_assemble ..

@[simp] theorem reservedField_encodeLine : reservedField (encodeLine p index level) = 0#5 :=
  reservedField_assemble ..

@[simp] theorem portField_encodeLine : portField (encodeLine p index level) = p.number := portField_assemble ..

@[simp] theorem indexField_encodeLine : indexField (encodeLine p index level) = index := by
  refine BitVec.eq_of_getLsbD_eq fun k hk => ?_
  simp only [indexField, encodeLine, BitVec.getLsbD_extractLsb', getLsbD_assemble, BitVec.getLsbD_append, hk]
  grind

@[simp] theorem levelField_encodeLine : levelField (encodeLine p index level) = level := by
  simp only [levelField, encodeLine, getLsbD_assemble, BitVec.getLsbD_append]
  cases level <;> rfl

theorem strayBits_encodeLine : strayBits (encodeLine p index level) = false := by
  have h1 : (encodeLine p index level).extractLsb' 40 8 = 0#8 := by
    refine BitVec.eq_of_getLsbD_eq fun k hk => ?_
    simp only [encodeLine, BitVec.getLsbD_extractLsb', getLsbD_assemble, BitVec.getLsbD_append, hk]
    grind
  have h2 : (encodeLine p index level).extractLsb' 1 31 = 0#31 := by
    refine BitVec.eq_of_getLsbD_eq fun k hk => ?_
    simp only [encodeLine, BitVec.getLsbD_extractLsb', getLsbD_assemble, BitVec.getLsbD_append, hk]
    grind
  simp [strayBits, h1, h2]

end

/-! ## The register map -/

theorem Reg.atIndex_offset (r : Reg) : Reg.atIndex (r.offset.toNat / 4) = some r := by
  cases r <;> rfl

theorem Reg.offset_facts (r : Reg) : r.offset.toNat % 4 = 0 ∧ r.offset.toNat ≤ 0x40 := by
  cases r <;> decide

theorem Reg.atIndex_some {k : Nat} {r : Reg} (h : Reg.atIndex k = some r) : r.offset.toNat = 4 * k := by
  unfold Reg.atIndex at h
  split at h <;> first | (cases h; rfl) | cases h

theorem Reg.atIndex_none {k : Nat} (h : Reg.atIndex k = none) : 17 ≤ k := by
  by_contra hk
  have : k < 17 := by omega
  interval_cases k <;> cases h

theorem Port.ofNumber_number (p : Port) : Port.ofNumber p.number.toNat = some p := by
  cases p <;> rfl

theorem Port.ofNumber_some {k : Nat} {p : Port} (h : Port.ofNumber k = some p) : p.number.toNat = k := by
  unfold Port.ofNumber at h
  split at h <;> first | (cases h; rfl) | cases h

@[simp] theorem Reg.wellFormed_readInstr (c : Config) (r : Reg) : r.readInstr.wellFormed c = true := by
  cases r <;> rfl

@[simp] theorem Reg.wellFormed_writeInstr (c : Config) (r : Reg) (data : Word) :
    (r.writeInstr data).wellFormed c = true := by
  cases r <;> rfl

@[simp] theorem Port.wellFormed_lineInstr (c : Config) (p : Port) (index : BitVec 8) (level : Bool) :
    (p.lineInstr index level).wellFormed c = true := by
  cases p <;> rfl

/-- An offset that decodes to no register is one of an unmapped access (R61, R72, R73). -/
theorem unmappedOffset_of_decode {c : Config} {offset : BitVec 16} (h : decodeOffset c offset = .ok none) :
    unmappedOffset c offset = true := by
  unfold decodeOffset at h
  split at h
  · cases h
  · split at h
    · cases h
    · have := Reg.atIndex_none (Except.ok.inj h)
      simp only [unmappedOffset, Bool.and_eq_true, decide_eq_true_eq]
      omega

/-- What is delivered is well formed. -/
theorem decode_wellFormed {c : Config} {w : OpWord} {i : Instr} (h : decode c w = .ok i) :
    i.wellFormed c = true := by
  unfold decode at h
  repeat' split at h
  all_goals cases h <;> first | simp | rfl | exact unmappedOffset_of_decode ‹_›

theorem encode_readInstr (r : Reg) : encode r.readInstr = encodeRead r.offset := by cases r <;> rfl

theorem encode_writeInstr (r : Reg) (data : Word) : encode (r.writeInstr data) = encodeWrite r.offset data := by
  cases r <;> rfl

theorem encode_lineInstr (p : Port) (index : BitVec 8) (level : Bool) :
    encode (p.lineInstr index level) = encodeLine p index level := by
  cases p <;> rfl

end Sys2Proof
end

