-- ==== Sys2Proof/Laws/State.lean ====
section
/-! SUPPORT. The field laws: what each field of the state is after each update, one lemma a field, true by rfl; and the
read-over-write laws of the register file and of the output lines. -/

namespace Sys2Proof.Machine

variable (s : State)

/-! ## Register file and outputs -/

/-- Does the register hold a stored word (R22)? -/
def Reg.stored (r : Reg) : Bool := r != .intrTest && r != .alertTest

theorem RegFile.get_set_same (f : RegFile) (v : Word) (r : Reg) (h : Reg.stored r = true) :
    (f.set v r).get r = v := by
  cases r <;> first | rfl | cases h

theorem RegFile.get_set_other (f : RegFile) (v : Word) (r q : Reg) (h : q ≠ r) :
    (f.set v r).get q = f.get q := by
  cases r <;> cases q <;> first | rfl | exact absurd rfl h

@[simp] theorem Outputs.get_set_same (o : Outputs) (b : Bool) (l : OutLine) : (o.set b l).get l = b := by
  cases l <;> rfl

theorem Outputs.get_set_other (o : Outputs) (b : Bool) (l k : OutLine) (h : k ≠ l) :
    (o.set b l).get k = o.get k := by
  cases l <;> cases k <;> first | rfl | exact absurd rfl h

/-- Driving a line to the level it has changes nothing, so `set_out` is R11's conditional. -/
theorem Outputs.set_get (o : Outputs) (l : OutLine) : o.set (o.get l) l = o := by
  cases l <;> rfl

/-! ## State.emit -/

@[simp] theorem State.emit_cfg (e : Event) : (s.emit e).cfg = s.cfg := rfl
@[simp] theorem State.emit_regs (e : Event) : (s.emit e).regs = s.regs := rfl
@[simp] theorem State.emit_latch (e : Event) : (s.emit e).latch = s.latch := rfl
@[simp] theorem State.emit_rst (e : Event) : (s.emit e).rst = s.rst := rfl
@[simp] theorem State.emit_slow (e : Event) : (s.emit e).slow = s.slow := rfl
@[simp] theorem State.emit_fast (e : Event) : (s.emit e).fast = s.fast := rfl
@[simp] theorem State.emit_tickPending (e : Event) : (s.emit e).tickPending = s.tickPending := rfl
@[simp] theorem State.emit_cdcTimerArmed (e : Event) : (s.emit e).cdcTimerArmed = s.cdcTimerArmed := rfl
@[simp] theorem State.emit_out (e : Event) : (s.emit e).out = s.out := rfl
@[simp] theorem State.emit_halted (e : Event) : (s.emit e).halted = s.halted := rfl
@[simp] theorem State.emit_history (e : Event) : (s.emit e).history = s.history ++ [e] := rfl
@[simp] theorem State.emit_results (e : Event) : (s.emit e).results = s.results := rfl
@[simp] theorem State.emit_deliveries (e : Event) : (s.emit e).deliveries = s.deliveries := rfl
@[simp] theorem State.emit_freeCount (e : Event) : (s.emit e).freeCount = s.freeCount := rfl

/-! ## State.diag -/

@[simp] theorem State.diag_cfg (d : Diag) : (s.diag d).cfg = s.cfg := rfl
@[simp] theorem State.diag_regs (d : Diag) : (s.diag d).regs = s.regs := rfl
@[simp] theorem State.diag_latch (d : Diag) : (s.diag d).latch = s.latch := rfl
@[simp] theorem State.diag_rst (d : Diag) : (s.diag d).rst = s.rst := rfl
@[simp] theorem State.diag_slow (d : Diag) : (s.diag d).slow = s.slow := rfl
@[simp] theorem State.diag_fast (d : Diag) : (s.diag d).fast = s.fast := rfl
@[simp] theorem State.diag_tickPending (d : Diag) : (s.diag d).tickPending = s.tickPending := rfl
@[simp] theorem State.diag_cdcTimerArmed (d : Diag) : (s.diag d).cdcTimerArmed = s.cdcTimerArmed := rfl
@[simp] theorem State.diag_out (d : Diag) : (s.diag d).out = s.out := rfl
@[simp] theorem State.diag_halted (d : Diag) : (s.diag d).halted = s.halted := rfl
@[simp] theorem State.diag_history (d : Diag) : (s.diag d).history = s.history ++ [.diag d] := rfl
@[simp] theorem State.diag_results (d : Diag) : (s.diag d).results = s.results := rfl
@[simp] theorem State.diag_deliveries (d : Diag) : (s.diag d).deliveries = s.deliveries := rfl
@[simp] theorem State.diag_freeCount (d : Diag) : (s.diag d).freeCount = s.freeCount := rfl

/-! ## State.setReg -/

@[simp] theorem State.setReg_cfg (r : Reg) (v : Word) : (s.setReg r v).cfg = s.cfg := rfl
@[simp] theorem State.setReg_regs (r : Reg) (v : Word) : (s.setReg r v).regs = s.regs.set v r := rfl
@[simp] theorem State.setReg_latch (r : Reg) (v : Word) : (s.setReg r v).latch = s.latch := rfl
@[simp] theorem State.setReg_rst (r : Reg) (v : Word) : (s.setReg r v).rst = s.rst := rfl
@[simp] theorem State.setReg_slow (r : Reg) (v : Word) : (s.setReg r v).slow = s.slow := rfl
@[simp] theorem State.setReg_fast (r : Reg) (v : Word) : (s.setReg r v).fast = s.fast := rfl
@[simp] theorem State.setReg_tickPending (r : Reg) (v : Word) : (s.setReg r v).tickPending = s.tickPending := rfl
@[simp] theorem State.setReg_cdcTimerArmed (r : Reg) (v : Word) : (s.setReg r v).cdcTimerArmed = s.cdcTimerArmed := rfl
@[simp] theorem State.setReg_out (r : Reg) (v : Word) : (s.setReg r v).out = s.out := rfl
@[simp] theorem State.setReg_halted (r : Reg) (v : Word) : (s.setReg r v).halted = s.halted := rfl
@[simp] theorem State.setReg_history (r : Reg) (v : Word) : (s.setReg r v).history = s.history := rfl
@[simp] theorem State.setReg_results (r : Reg) (v : Word) : (s.setReg r v).results = s.results := rfl
@[simp] theorem State.setReg_deliveries (r : Reg) (v : Word) : (s.setReg r v).deliveries = s.deliveries := rfl
@[simp] theorem State.setReg_freeCount (r : Reg) (v : Word) : (s.setReg r v).freeCount = s.freeCount := rfl

/-! ## State.setOut -/

@[simp] theorem State.setOut_cfg (l : OutLine) (b : Bool) : (s.setOut l b).cfg = s.cfg := rfl
@[simp] theorem State.setOut_regs (l : OutLine) (b : Bool) : (s.setOut l b).regs = s.regs := rfl
@[simp] theorem State.setOut_latch (l : OutLine) (b : Bool) : (s.setOut l b).latch = s.latch := rfl
@[simp] theorem State.setOut_rst (l : OutLine) (b : Bool) : (s.setOut l b).rst = s.rst := rfl
@[simp] theorem State.setOut_slow (l : OutLine) (b : Bool) : (s.setOut l b).slow = s.slow := rfl
@[simp] theorem State.setOut_fast (l : OutLine) (b : Bool) : (s.setOut l b).fast = s.fast := rfl
@[simp] theorem State.setOut_tickPending (l : OutLine) (b : Bool) : (s.setOut l b).tickPending = s.tickPending := rfl
@[simp] theorem State.setOut_cdcTimerArmed (l : OutLine) (b : Bool) : (s.setOut l b).cdcTimerArmed = s.cdcTimerArmed := rfl
@[simp] theorem State.setOut_out (l : OutLine) (b : Bool) : (s.setOut l b).out = s.out.set b l := rfl
@[simp] theorem State.setOut_halted (l : OutLine) (b : Bool) : (s.setOut l b).halted = s.halted := rfl
@[simp] theorem State.setOut_history (l : OutLine) (b : Bool) :
    (s.setOut l b).history = s.history ++ lineEvents s.out l b := rfl
@[simp] theorem State.setOut_results (l : OutLine) (b : Bool) : (s.setOut l b).results = s.results := rfl
@[simp] theorem State.setOut_deliveries (l : OutLine) (b : Bool) : (s.setOut l b).deliveries = s.deliveries := rfl
@[simp] theorem State.setOut_freeCount (l : OutLine) (b : Bool) : (s.setOut l b).freeCount = s.freeCount := rfl

/-! ## State.answer -/

@[simp] theorem State.answer_cfg (v : Word) (b : Bool) : (s.answer v b).cfg = s.cfg := rfl
@[simp] theorem State.answer_regs (v : Word) (b : Bool) : (s.answer v b).regs = s.regs := rfl
@[simp] theorem State.answer_latch (v : Word) (b : Bool) : (s.answer v b).latch = s.latch := rfl
@[simp] theorem State.answer_rst (v : Word) (b : Bool) : (s.answer v b).rst = s.rst := rfl
@[simp] theorem State.answer_slow (v : Word) (b : Bool) : (s.answer v b).slow = s.slow := rfl
@[simp] theorem State.answer_fast (v : Word) (b : Bool) : (s.answer v b).fast = s.fast := rfl
@[simp] theorem State.answer_tickPending (v : Word) (b : Bool) : (s.answer v b).tickPending = s.tickPending := rfl
@[simp] theorem State.answer_cdcTimerArmed (v : Word) (b : Bool) : (s.answer v b).cdcTimerArmed = s.cdcTimerArmed := rfl
@[simp] theorem State.answer_out (v : Word) (b : Bool) : (s.answer v b).out = s.out := rfl
@[simp] theorem State.answer_halted (v : Word) (b : Bool) : (s.answer v b).halted = s.halted := rfl
@[simp] theorem State.answer_history (v : Word) (b : Bool) : (s.answer v b).history = s.history := rfl
@[simp] theorem State.answer_results (v : Word) (b : Bool) : (s.answer v b).results = s.results ++ [⟨v, b⟩] := rfl
@[simp] theorem State.answer_deliveries (v : Word) (b : Bool) : (s.answer v b).deliveries = s.deliveries := rfl
@[simp] theorem State.answer_freeCount (v : Word) (b : Bool) : (s.answer v b).freeCount = s.freeCount := rfl

/-! ## State.armTick -/

@[simp] theorem State.armTick_cfg : (s.armTick).cfg = s.cfg := rfl
@[simp] theorem State.armTick_regs : (s.armTick).regs = s.regs := rfl
@[simp] theorem State.armTick_latch : (s.armTick).latch = s.latch := rfl
@[simp] theorem State.armTick_rst : (s.armTick).rst = s.rst := rfl
@[simp] theorem State.armTick_slow : (s.armTick).slow = s.slow := rfl
@[simp] theorem State.armTick_fast : (s.armTick).fast = s.fast := rfl
@[simp] theorem State.armTick_tickPending : (s.armTick).tickPending = true := rfl
@[simp] theorem State.armTick_cdcTimerArmed : (s.armTick).cdcTimerArmed = s.cdcTimerArmed := rfl
@[simp] theorem State.armTick_out : (s.armTick).out = s.out := rfl
@[simp] theorem State.armTick_halted : (s.armTick).halted = s.halted := rfl
@[simp] theorem State.armTick_history : (s.armTick).history = s.history := rfl
@[simp] theorem State.armTick_results : (s.armTick).results = s.results := rfl
@[simp] theorem State.armTick_deliveries : (s.armTick).deliveries = s.deliveries := rfl
@[simp] theorem State.armTick_freeCount : (s.armTick).freeCount = s.freeCount := rfl

/-! ## State.acceptReset -/

@[simp] theorem State.acceptReset_cfg (k : Nat) (c : ResetCause) : (s.acceptReset k c).cfg = s.cfg := rfl
@[simp] theorem State.acceptReset_regs (k : Nat) (c : ResetCause) :
    (s.acceptReset k c).regs = s.regs.set (s.reg .resetStatus ||| (1#32 <<< k)) .resetStatus := rfl
@[simp] theorem State.acceptReset_latch (k : Nat) (c : ResetCause) : (s.acceptReset k c).latch = s.latch := rfl
@[simp] theorem State.acceptReset_rst (k : Nat) (c : ResetCause) : (s.acceptReset k c).rst = ⟨.fast, c⟩ := rfl
@[simp] theorem State.acceptReset_slow (k : Nat) (c : ResetCause) : (s.acceptReset k c).slow = s.slow := rfl
@[simp] theorem State.acceptReset_fast (k : Nat) (c : ResetCause) : (s.acceptReset k c).fast = s.fast := rfl
@[simp] theorem State.acceptReset_tickPending (k : Nat) (c : ResetCause) : (s.acceptReset k c).tickPending = true := rfl
@[simp] theorem State.acceptReset_cdcTimerArmed (k : Nat) (c : ResetCause) : (s.acceptReset k c).cdcTimerArmed = s.cdcTimerArmed := rfl
@[simp] theorem State.acceptReset_out (k : Nat) (c : ResetCause) : (s.acceptReset k c).out = s.out := rfl
@[simp] theorem State.acceptReset_halted (k : Nat) (c : ResetCause) : (s.acceptReset k c).halted = s.halted := rfl
@[simp] theorem State.acceptReset_history (k : Nat) (c : ResetCause) : (s.acceptReset k c).history = s.history := rfl
@[simp] theorem State.acceptReset_results (k : Nat) (c : ResetCause) : (s.acceptReset k c).results = s.results := rfl
@[simp] theorem State.acceptReset_deliveries (k : Nat) (c : ResetCause) : (s.acceptReset k c).deliveries = s.deliveries := rfl
@[simp] theorem State.acceptReset_freeCount (k : Nat) (c : ResetCause) : (s.acceptReset k c).freeCount = s.freeCount := rfl

/-! ## State.dropRequest -/

@[simp] theorem State.dropRequest_cfg : (s.dropRequest).cfg = s.cfg := rfl
@[simp] theorem State.dropRequest_regs : (s.dropRequest).regs = s.regs := rfl
@[simp] theorem State.dropRequest_latch : (s.dropRequest).latch = s.latch := rfl
@[simp] theorem State.dropRequest_rst :
    (s.dropRequest).rst = ⟨.none, ⟨Config.freeCauseToken s.freeCount⟩⟩ := rfl
@[simp] theorem State.dropRequest_slow : (s.dropRequest).slow = s.slow := rfl
@[simp] theorem State.dropRequest_fast : (s.dropRequest).fast = s.fast := rfl
@[simp] theorem State.dropRequest_tickPending : (s.dropRequest).tickPending = s.tickPending := rfl
@[simp] theorem State.dropRequest_cdcTimerArmed : (s.dropRequest).cdcTimerArmed = s.cdcTimerArmed := rfl
@[simp] theorem State.dropRequest_out : (s.dropRequest).out = s.out := rfl
@[simp] theorem State.dropRequest_halted : (s.dropRequest).halted = s.halted := rfl
@[simp] theorem State.dropRequest_history : (s.dropRequest).history = s.history := rfl
@[simp] theorem State.dropRequest_results : (s.dropRequest).results = s.results := rfl
@[simp] theorem State.dropRequest_deliveries : (s.dropRequest).deliveries = s.deliveries := rfl
@[simp] theorem State.dropRequest_freeCount : (s.dropRequest).freeCount = s.freeCount + 1 := rfl

/-! ## State.storeRW -/

@[simp] theorem State.storeRW_cfg (r : Reg) (d : Word) : (s.storeRW r d).cfg = s.cfg := rfl
@[simp] theorem State.storeRW_regs (r : Reg) (d : Word) : (s.storeRW r d).regs = s.regs.set (s.masked r d) r := rfl
@[simp] theorem State.storeRW_latch (r : Reg) (d : Word) : (s.storeRW r d).latch = s.latch := rfl
@[simp] theorem State.storeRW_rst (r : Reg) (d : Word) : (s.storeRW r d).rst = s.rst := rfl
@[simp] theorem State.storeRW_slow (r : Reg) (d : Word) : (s.storeRW r d).slow = s.slow := rfl
@[simp] theorem State.storeRW_fast (r : Reg) (d : Word) : (s.storeRW r d).fast = s.fast := rfl
@[simp] theorem State.storeRW_tickPending (r : Reg) (d : Word) : (s.storeRW r d).tickPending = s.tickPending := rfl
@[simp] theorem State.storeRW_cdcTimerArmed (r : Reg) (d : Word) : (s.storeRW r d).cdcTimerArmed = s.cdcTimerArmed := rfl
@[simp] theorem State.storeRW_out (r : Reg) (d : Word) : (s.storeRW r d).out = s.out := rfl
@[simp] theorem State.storeRW_halted (r : Reg) (d : Word) : (s.storeRW r d).halted = s.halted := rfl
@[simp] theorem State.storeRW_history (r : Reg) (d : Word) : (s.storeRW r d).history = s.history := rfl
@[simp] theorem State.storeRW_results (r : Reg) (d : Word) : (s.storeRW r d).results = s.results := rfl
@[simp] theorem State.storeRW_deliveries (r : Reg) (d : Word) : (s.storeRW r d).deliveries = s.deliveries := rfl
@[simp] theorem State.storeRW_freeCount (r : Reg) (d : Word) : (s.storeRW r d).freeCount = s.freeCount := rfl

/-! ## State.storeRW1C -/

@[simp] theorem State.storeRW1C_cfg (r : Reg) (d : Word) : (s.storeRW1C r d).cfg = s.cfg := rfl
@[simp] theorem State.storeRW1C_regs (r : Reg) (d : Word) :
    (s.storeRW1C r d).regs = s.regs.set (rw1c (s.reg r) (s.masked r d)) r := rfl
@[simp] theorem State.storeRW1C_latch (r : Reg) (d : Word) : (s.storeRW1C r d).latch = s.latch := rfl
@[simp] theorem State.storeRW1C_rst (r : Reg) (d : Word) : (s.storeRW1C r d).rst = s.rst := rfl
@[simp] theorem State.storeRW1C_slow (r : Reg) (d : Word) : (s.storeRW1C r d).slow = s.slow := rfl
@[simp] theorem State.storeRW1C_fast (r : Reg) (d : Word) : (s.storeRW1C r d).fast = s.fast := rfl
@[simp] theorem State.storeRW1C_tickPending (r : Reg) (d : Word) : (s.storeRW1C r d).tickPending = s.tickPending := rfl
@[simp] theorem State.storeRW1C_cdcTimerArmed (r : Reg) (d : Word) : (s.storeRW1C r d).cdcTimerArmed = s.cdcTimerArmed := rfl
@[simp] theorem State.storeRW1C_out (r : Reg) (d : Word) : (s.storeRW1C r d).out = s.out := rfl
@[simp] theorem State.storeRW1C_halted (r : Reg) (d : Word) : (s.storeRW1C r d).halted = s.halted := rfl
@[simp] theorem State.storeRW1C_history (r : Reg) (d : Word) : (s.storeRW1C r d).history = s.history := rfl
@[simp] theorem State.storeRW1C_results (r : Reg) (d : Word) : (s.storeRW1C r d).results = s.results := rfl
@[simp] theorem State.storeRW1C_deliveries (r : Reg) (d : Word) : (s.storeRW1C r d).deliveries = s.deliveries := rfl
@[simp] theorem State.storeRW1C_freeCount (r : Reg) (d : Word) : (s.storeRW1C r d).freeCount = s.freeCount := rfl

/-! ## State.storeRW0C -/

@[simp] theorem State.storeRW0C_cfg (r : Reg) (d : Word) : (s.storeRW0C r d).cfg = s.cfg := rfl
@[simp] theorem State.storeRW0C_regs (r : Reg) (d : Word) :
    (s.storeRW0C r d).regs = s.regs.set (rw0c (s.reg r) (s.masked r d)) r := rfl
@[simp] theorem State.storeRW0C_latch (r : Reg) (d : Word) : (s.storeRW0C r d).latch = s.latch := rfl
@[simp] theorem State.storeRW0C_rst (r : Reg) (d : Word) : (s.storeRW0C r d).rst = s.rst := rfl
@[simp] theorem State.storeRW0C_slow (r : Reg) (d : Word) : (s.storeRW0C r d).slow = s.slow := rfl
@[simp] theorem State.storeRW0C_fast (r : Reg) (d : Word) : (s.storeRW0C r d).fast = s.fast := rfl
@[simp] theorem State.storeRW0C_tickPending (r : Reg) (d : Word) : (s.storeRW0C r d).tickPending = s.tickPending := rfl
@[simp] theorem State.storeRW0C_cdcTimerArmed (r : Reg) (d : Word) : (s.storeRW0C r d).cdcTimerArmed = s.cdcTimerArmed := rfl
@[simp] theorem State.storeRW0C_out (r : Reg) (d : Word) : (s.storeRW0C r d).out = s.out := rfl
@[simp] theorem State.storeRW0C_halted (r : Reg) (d : Word) : (s.storeRW0C r d).halted = s.halted := rfl
@[simp] theorem State.storeRW0C_history (r : Reg) (d : Word) : (s.storeRW0C r d).history = s.history := rfl
@[simp] theorem State.storeRW0C_results (r : Reg) (d : Word) : (s.storeRW0C r d).results = s.results := rfl
@[simp] theorem State.storeRW0C_deliveries (r : Reg) (d : Word) : (s.storeRW0C r d).deliveries = s.deliveries := rfl
@[simp] theorem State.storeRW0C_freeCount (r : Reg) (d : Word) : (s.storeRW0C r d).freeCount = s.freeCount := rfl

/-! ## State.updateIrq -/

@[simp] theorem State.updateIrq_cfg : (s.updateIrq).cfg = s.cfg := rfl
@[simp] theorem State.updateIrq_regs : (s.updateIrq).regs = s.regs := rfl
@[simp] theorem State.updateIrq_latch : (s.updateIrq).latch = s.latch := rfl
@[simp] theorem State.updateIrq_rst : (s.updateIrq).rst = s.rst := rfl
@[simp] theorem State.updateIrq_slow : (s.updateIrq).slow = s.slow := rfl
@[simp] theorem State.updateIrq_fast : (s.updateIrq).fast = s.fast := rfl
@[simp] theorem State.updateIrq_tickPending : (s.updateIrq).tickPending = s.tickPending := rfl
@[simp] theorem State.updateIrq_cdcTimerArmed : (s.updateIrq).cdcTimerArmed = s.cdcTimerArmed := rfl
@[simp] theorem State.updateIrq_out :
    (s.updateIrq).out = s.out.set (irqLevel s.regs) .wakeIrq := rfl
@[simp] theorem State.updateIrq_halted : (s.updateIrq).halted = s.halted := rfl
@[simp] theorem State.updateIrq_history :
    (s.updateIrq).history = s.history ++ lineEvents s.out .wakeIrq (irqLevel s.regs) := rfl
@[simp] theorem State.updateIrq_results : (s.updateIrq).results = s.results := rfl
@[simp] theorem State.updateIrq_deliveries : (s.updateIrq).deliveries = s.deliveries := rfl
@[simp] theorem State.updateIrq_freeCount : (s.updateIrq).freeCount = s.freeCount := rfl

/-! ## State.latchRomGood -/

@[simp] theorem State.latchRomGood_cfg (k : Nat) : (s.latchRomGood k).cfg = s.cfg := rfl
@[simp] theorem State.latchRomGood_regs (k : Nat) : (s.latchRomGood k).regs = s.regs := rfl
@[simp] theorem State.latchRomGood_latch (k : Nat) :
    (s.latchRomGood k).latch = { s.latch with romGood := s.latch.romGood ||| (1#8 <<< k) } := rfl
@[simp] theorem State.latchRomGood_rst (k : Nat) : (s.latchRomGood k).rst = s.rst := rfl
@[simp] theorem State.latchRomGood_slow (k : Nat) : (s.latchRomGood k).slow = s.slow := rfl
@[simp] theorem State.latchRomGood_fast (k : Nat) : (s.latchRomGood k).fast = s.fast := rfl
@[simp] theorem State.latchRomGood_tickPending (k : Nat) : (s.latchRomGood k).tickPending = s.tickPending := rfl
@[simp] theorem State.latchRomGood_cdcTimerArmed (k : Nat) : (s.latchRomGood k).cdcTimerArmed = s.cdcTimerArmed := rfl
@[simp] theorem State.latchRomGood_out (k : Nat) : (s.latchRomGood k).out = s.out := rfl
@[simp] theorem State.latchRomGood_halted (k : Nat) : (s.latchRomGood k).halted = s.halted := rfl
@[simp] theorem State.latchRomGood_history (k : Nat) : (s.latchRomGood k).history = s.history := rfl
@[simp] theorem State.latchRomGood_results (k : Nat) : (s.latchRomGood k).results = s.results := rfl
@[simp] theorem State.latchRomGood_deliveries (k : Nat) : (s.latchRomGood k).deliveries = s.deliveries := rfl
@[simp] theorem State.latchRomGood_freeCount (k : Nat) : (s.latchRomGood k).freeCount = s.freeCount := rfl

/-! ## State.latchRomDone -/

@[simp] theorem State.latchRomDone_cfg (k : Nat) : (s.latchRomDone k).cfg = s.cfg := rfl
@[simp] theorem State.latchRomDone_regs (k : Nat) : (s.latchRomDone k).regs = s.regs := rfl
@[simp] theorem State.latchRomDone_latch (k : Nat) :
    (s.latchRomDone k).latch = { s.latch with romDone := s.latch.romDone ||| (1#8 <<< k) } := rfl
@[simp] theorem State.latchRomDone_rst (k : Nat) : (s.latchRomDone k).rst = s.rst := rfl
@[simp] theorem State.latchRomDone_slow (k : Nat) : (s.latchRomDone k).slow = s.slow := rfl
@[simp] theorem State.latchRomDone_fast (k : Nat) : (s.latchRomDone k).fast = s.fast := rfl
@[simp] theorem State.latchRomDone_tickPending (k : Nat) : (s.latchRomDone k).tickPending = s.tickPending := rfl
@[simp] theorem State.latchRomDone_cdcTimerArmed (k : Nat) : (s.latchRomDone k).cdcTimerArmed = s.cdcTimerArmed := rfl
@[simp] theorem State.latchRomDone_out (k : Nat) : (s.latchRomDone k).out = s.out := rfl
@[simp] theorem State.latchRomDone_halted (k : Nat) : (s.latchRomDone k).halted = s.halted := rfl
@[simp] theorem State.latchRomDone_history (k : Nat) : (s.latchRomDone k).history = s.history := rfl
@[simp] theorem State.latchRomDone_results (k : Nat) : (s.latchRomDone k).results = s.results := rfl
@[simp] theorem State.latchRomDone_deliveries (k : Nat) : (s.latchRomDone k).deliveries = s.deliveries := rfl
@[simp] theorem State.latchRomDone_freeCount (k : Nat) : (s.latchRomDone k).freeCount = s.freeCount := rfl

/-! ## State.latchHwReset -/

@[simp] theorem State.latchHwReset_cfg : (s.latchHwReset).cfg = s.cfg := rfl
@[simp] theorem State.latchHwReset_regs : (s.latchHwReset).regs = s.regs := rfl
@[simp] theorem State.latchHwReset_latch :
    (s.latchHwReset).latch = { s.latch with hwResetRequested := true } := rfl
@[simp] theorem State.latchHwReset_rst : (s.latchHwReset).rst = s.rst := rfl
@[simp] theorem State.latchHwReset_slow : (s.latchHwReset).slow = s.slow := rfl
@[simp] theorem State.latchHwReset_fast : (s.latchHwReset).fast = s.fast := rfl
@[simp] theorem State.latchHwReset_tickPending : (s.latchHwReset).tickPending = s.tickPending := rfl
@[simp] theorem State.latchHwReset_cdcTimerArmed : (s.latchHwReset).cdcTimerArmed = s.cdcTimerArmed := rfl
@[simp] theorem State.latchHwReset_out : (s.latchHwReset).out = s.out := rfl
@[simp] theorem State.latchHwReset_halted : (s.latchHwReset).halted = s.halted := rfl
@[simp] theorem State.latchHwReset_history : (s.latchHwReset).history = s.history := rfl
@[simp] theorem State.latchHwReset_results : (s.latchHwReset).results = s.results := rfl
@[simp] theorem State.latchHwReset_deliveries : (s.latchHwReset).deliveries = s.deliveries := rfl
@[simp] theorem State.latchHwReset_freeCount : (s.latchHwReset).freeCount = s.freeCount := rfl

/-! ## State.latchSwReset -/

@[simp] theorem State.latchSwReset_cfg : (s.latchSwReset).cfg = s.cfg := rfl
@[simp] theorem State.latchSwReset_regs : (s.latchSwReset).regs = s.regs := rfl
@[simp] theorem State.latchSwReset_latch :
    (s.latchSwReset).latch = { s.latch with swResetRequested := true } := rfl
@[simp] theorem State.latchSwReset_rst : (s.latchSwReset).rst = s.rst := rfl
@[simp] theorem State.latchSwReset_slow : (s.latchSwReset).slow = s.slow := rfl
@[simp] theorem State.latchSwReset_fast : (s.latchSwReset).fast = s.fast := rfl
@[simp] theorem State.latchSwReset_tickPending : (s.latchSwReset).tickPending = s.tickPending := rfl
@[simp] theorem State.latchSwReset_cdcTimerArmed : (s.latchSwReset).cdcTimerArmed = s.cdcTimerArmed := rfl
@[simp] theorem State.latchSwReset_out : (s.latchSwReset).out = s.out := rfl
@[simp] theorem State.latchSwReset_halted : (s.latchSwReset).halted = s.halted := rfl
@[simp] theorem State.latchSwReset_history : (s.latchSwReset).history = s.history := rfl
@[simp] theorem State.latchSwReset_results : (s.latchSwReset).results = s.results := rfl
@[simp] theorem State.latchSwReset_deliveries : (s.latchSwReset).deliveries = s.deliveries := rfl
@[simp] theorem State.latchSwReset_freeCount : (s.latchSwReset).freeCount = s.freeCount := rfl

/-! ## State.latchLcDone -/

@[simp] theorem State.latchLcDone_cfg : (s.latchLcDone).cfg = s.cfg := rfl
@[simp] theorem State.latchLcDone_regs : (s.latchLcDone).regs = s.regs := rfl
@[simp] theorem State.latchLcDone_latch :
    (s.latchLcDone).latch = { s.latch with lcDone := true } := rfl
@[simp] theorem State.latchLcDone_rst : (s.latchLcDone).rst = s.rst := rfl
@[simp] theorem State.latchLcDone_slow : (s.latchLcDone).slow = s.slow := rfl
@[simp] theorem State.latchLcDone_fast : (s.latchLcDone).fast = s.fast := rfl
@[simp] theorem State.latchLcDone_tickPending : (s.latchLcDone).tickPending = s.tickPending := rfl
@[simp] theorem State.latchLcDone_cdcTimerArmed : (s.latchLcDone).cdcTimerArmed = s.cdcTimerArmed := rfl
@[simp] theorem State.latchLcDone_out : (s.latchLcDone).out = s.out := rfl
@[simp] theorem State.latchLcDone_halted : (s.latchLcDone).halted = s.halted := rfl
@[simp] theorem State.latchLcDone_history : (s.latchLcDone).history = s.history := rfl
@[simp] theorem State.latchLcDone_results : (s.latchLcDone).results = s.results := rfl
@[simp] theorem State.latchLcDone_deliveries : (s.latchLcDone).deliveries = s.deliveries := rfl
@[simp] theorem State.latchLcDone_freeCount : (s.latchLcDone).freeCount = s.freeCount := rfl

/-! ## State.latchOtpDone -/

@[simp] theorem State.latchOtpDone_cfg : (s.latchOtpDone).cfg = s.cfg := rfl
@[simp] theorem State.latchOtpDone_regs : (s.latchOtpDone).regs = s.regs := rfl
@[simp] theorem State.latchOtpDone_latch :
    (s.latchOtpDone).latch = { s.latch with otpDone := true } := rfl
@[simp] theorem State.latchOtpDone_rst : (s.latchOtpDone).rst = s.rst := rfl
@[simp] theorem State.latchOtpDone_slow : (s.latchOtpDone).slow = s.slow := rfl
@[simp] theorem State.latchOtpDone_fast : (s.latchOtpDone).fast = s.fast := rfl
@[simp] theorem State.latchOtpDone_tickPending : (s.latchOtpDone).tickPending = s.tickPending := rfl
@[simp] theorem State.latchOtpDone_cdcTimerArmed : (s.latchOtpDone).cdcTimerArmed = s.cdcTimerArmed := rfl
@[simp] theorem State.latchOtpDone_out : (s.latchOtpDone).out = s.out := rfl
@[simp] theorem State.latchOtpDone_halted : (s.latchOtpDone).halted = s.halted := rfl
@[simp] theorem State.latchOtpDone_history : (s.latchOtpDone).history = s.history := rfl
@[simp] theorem State.latchOtpDone_results : (s.latchOtpDone).results = s.results := rfl
@[simp] theorem State.latchOtpDone_deliveries : (s.latchOtpDone).deliveries = s.deliveries := rfl
@[simp] theorem State.latchOtpDone_freeCount : (s.latchOtpDone).freeCount = s.freeCount := rfl

/-! ## State.latchEscalate -/

@[simp] theorem State.latchEscalate_cfg : (s.latchEscalate).cfg = s.cfg := rfl
@[simp] theorem State.latchEscalate_regs : (s.latchEscalate).regs = s.regs := rfl
@[simp] theorem State.latchEscalate_latch :
    (s.latchEscalate).latch = { s.latch with escalate := true } := rfl
@[simp] theorem State.latchEscalate_rst : (s.latchEscalate).rst = s.rst := rfl
@[simp] theorem State.latchEscalate_slow : (s.latchEscalate).slow = s.slow := rfl
@[simp] theorem State.latchEscalate_fast : (s.latchEscalate).fast = s.fast := rfl
@[simp] theorem State.latchEscalate_tickPending : (s.latchEscalate).tickPending = s.tickPending := rfl
@[simp] theorem State.latchEscalate_cdcTimerArmed : (s.latchEscalate).cdcTimerArmed = s.cdcTimerArmed := rfl
@[simp] theorem State.latchEscalate_out : (s.latchEscalate).out = s.out := rfl
@[simp] theorem State.latchEscalate_halted : (s.latchEscalate).halted = s.halted := rfl
@[simp] theorem State.latchEscalate_history : (s.latchEscalate).history = s.history := rfl
@[simp] theorem State.latchEscalate_results : (s.latchEscalate).results = s.results := rfl
@[simp] theorem State.latchEscalate_deliveries : (s.latchEscalate).deliveries = s.deliveries := rfl
@[simp] theorem State.latchEscalate_freeCount : (s.latchEscalate).freeCount = s.freeCount := rfl

/-! ## State.latchHoldFetch -/

@[simp] theorem State.latchHoldFetch_cfg (b : Bool) : (s.latchHoldFetch b).cfg = s.cfg := rfl
@[simp] theorem State.latchHoldFetch_regs (b : Bool) : (s.latchHoldFetch b).regs = s.regs := rfl
@[simp] theorem State.latchHoldFetch_latch (b : Bool) :
    (s.latchHoldFetch b).latch = { s.latch with holdFetch := b } := rfl
@[simp] theorem State.latchHoldFetch_rst (b : Bool) : (s.latchHoldFetch b).rst = s.rst := rfl
@[simp] theorem State.latchHoldFetch_slow (b : Bool) : (s.latchHoldFetch b).slow = s.slow := rfl
@[simp] theorem State.latchHoldFetch_fast (b : Bool) : (s.latchHoldFetch b).fast = s.fast := rfl
@[simp] theorem State.latchHoldFetch_tickPending (b : Bool) : (s.latchHoldFetch b).tickPending = s.tickPending := rfl
@[simp] theorem State.latchHoldFetch_cdcTimerArmed (b : Bool) : (s.latchHoldFetch b).cdcTimerArmed = s.cdcTimerArmed := rfl
@[simp] theorem State.latchHoldFetch_out (b : Bool) : (s.latchHoldFetch b).out = s.out := rfl
@[simp] theorem State.latchHoldFetch_halted (b : Bool) : (s.latchHoldFetch b).halted = s.halted := rfl
@[simp] theorem State.latchHoldFetch_history (b : Bool) : (s.latchHoldFetch b).history = s.history := rfl
@[simp] theorem State.latchHoldFetch_results (b : Bool) : (s.latchHoldFetch b).results = s.results := rfl
@[simp] theorem State.latchHoldFetch_deliveries (b : Bool) : (s.latchHoldFetch b).deliveries = s.deliveries := rfl
@[simp] theorem State.latchHoldFetch_freeCount (b : Bool) : (s.latchHoldFetch b).freeCount = s.freeCount := rfl

/-! ## State.goto -/

@[simp] theorem State.goto_cfg (f : FastState) : (s.goto f).cfg = s.cfg := rfl
@[simp] theorem State.goto_regs (f : FastState) : (s.goto f).regs = s.regs := rfl
@[simp] theorem State.goto_latch (f : FastState) : (s.goto f).latch = s.latch := rfl
@[simp] theorem State.goto_rst (f : FastState) : (s.goto f).rst = s.rst := rfl
@[simp] theorem State.goto_slow (f : FastState) : (s.goto f).slow = s.slow := rfl
@[simp] theorem State.goto_fast (f : FastState) : (s.goto f).fast = f := rfl
@[simp] theorem State.goto_tickPending (f : FastState) : (s.goto f).tickPending = s.tickPending := rfl
@[simp] theorem State.goto_cdcTimerArmed (f : FastState) : (s.goto f).cdcTimerArmed = s.cdcTimerArmed := rfl
@[simp] theorem State.goto_out (f : FastState) : (s.goto f).out = s.out := rfl
@[simp] theorem State.goto_halted (f : FastState) : (s.goto f).halted = s.halted := rfl
@[simp] theorem State.goto_history (f : FastState) : (s.goto f).history = s.history := rfl
@[simp] theorem State.goto_results (f : FastState) : (s.goto f).results = s.results := rfl
@[simp] theorem State.goto_deliveries (f : FastState) : (s.goto f).deliveries = s.deliveries := rfl
@[simp] theorem State.goto_freeCount (f : FastState) : (s.goto f).freeCount = s.freeCount := rfl

/-! ## State.withDelivery -/

@[simp] theorem State.withDelivery_cfg (w : OpWord) : (s.withDelivery w).cfg = s.cfg := rfl
@[simp] theorem State.withDelivery_regs (w : OpWord) : (s.withDelivery w).regs = s.regs := rfl
@[simp] theorem State.withDelivery_latch (w : OpWord) : (s.withDelivery w).latch = s.latch := rfl
@[simp] theorem State.withDelivery_rst (w : OpWord) : (s.withDelivery w).rst = s.rst := rfl
@[simp] theorem State.withDelivery_slow (w : OpWord) : (s.withDelivery w).slow = s.slow := rfl
@[simp] theorem State.withDelivery_fast (w : OpWord) : (s.withDelivery w).fast = s.fast := rfl
@[simp] theorem State.withDelivery_tickPending (w : OpWord) : (s.withDelivery w).tickPending = s.tickPending := rfl
@[simp] theorem State.withDelivery_cdcTimerArmed (w : OpWord) : (s.withDelivery w).cdcTimerArmed = s.cdcTimerArmed := rfl
@[simp] theorem State.withDelivery_out (w : OpWord) : (s.withDelivery w).out = s.out := rfl
@[simp] theorem State.withDelivery_halted (w : OpWord) : (s.withDelivery w).halted = s.halted := rfl
@[simp] theorem State.withDelivery_history (w : OpWord) : (s.withDelivery w).history = s.history := rfl
@[simp] theorem State.withDelivery_results (w : OpWord) : (s.withDelivery w).results = s.results := rfl
@[simp] theorem State.withDelivery_deliveries (w : OpWord) : (s.withDelivery w).deliveries = w :: s.deliveries := rfl
@[simp] theorem State.withDelivery_freeCount (w : OpWord) : (s.withDelivery w).freeCount = s.freeCount := rfl

end Sys2Proof.Machine
end

