-- ==== Sys2Proof/Laws/Ops.lean ====
section
/-! SUPPORT. One law for each shared operation, which says once what it can do; later proofs cite these instead of
unfolding the operation. -/

namespace Sys2Proof.Machine

/-! ## The guard -/

theorem running_of_ready {s : State} {k : Answer} (h : s.halted = false ∧ s.cfg.wellFormed = true) :
    running s k = k := by
  simp [running, h.1, h.2]

theorem running_next_iff {s t : State} {k : Answer} :
    running s k = .next t ↔ (s.halted = false ∧ s.cfg.wellFormed = true) ∧ k = .next t := by
  unfold running
  cases s.halted <;> cases s.cfg.wellFormed <;> simp

theorem running_fault_iff {s : State} {f : Fault} {k : Answer} :
    running s k = .fault f ↔ (s.halted = false ∧ s.cfg.wellFormed = true) ∧ k = .fault f := by
  unfold running
  cases s.halted <;> cases s.cfg.wellFormed <;> simp

theorem running_of_halted {s : State} {k : Answer} (h : s.halted = true) :
    running s k = .refused .halted := by
  simp [running, h]

theorem running_of_illFormed {s : State} {k : Answer} (h : s.halted = false)
    (hc : s.cfg.wellFormed = false) : running s k = .refused .illFormedConfiguration := by
  simp [running, h, hc]

/-- Every operation starts from the guard. -/
theorem exec_guarded (i : Instr) (s : State) : ∃ k, exec i s = running s k := by
  cases i <;> exact ⟨_, rfl⟩

theorem exec_ready {i : Instr} {s t : State} (h : exec i s = .next t) :
    s.halted = false ∧ s.cfg.wellFormed = true := by
  obtain ⟨k, hk⟩ := exec_guarded i s
  exact (running_next_iff.mp (hk ▸ h)).1

/-! ## Reads, writes and deliveries -/

theorem readStored_of_ready {r : Reg} {s : State} (h : s.halted = false ∧ s.cfg.wellFormed = true) :
    readStored r s = .next { s with results := s.results ++ [⟨s.reg r, true⟩] } :=
  running_of_ready h

theorem readWriteOnly_of_ready {r : Reg} {s : State} (h : s.halted = false ∧ s.cfg.wellFormed = true) :
    readWriteOnly r s = .next { s with
      history := s.history ++ [.diag (.writeOnlyRead r.offset)]
      results := s.results ++ [⟨0#32, true⟩] } :=
  running_of_ready h

theorem writeReadOnly_of_ready {r : Reg} {data : Word} {s : State}
    (h : s.halted = false ∧ s.cfg.wellFormed = true) :
    writeReadOnly r data s =
      .next { s with history := s.history ++ [.diag (.readOnlyWrite r.offset data)] } :=
  running_of_ready h

theorem writeGated_open {r gate : Reg} {data : Word} {s : State}
    (h : s.halted = false ∧ s.cfg.wellFormed = true) (hg : (s.reg gate).getLsbD 0 = true) :
    writeGated r gate data s = .next (s.setReg r (data &&& legal s.cfg r)) := by
  simp only [writeGated, running_of_ready h, hg, if_true]
  rfl

theorem writeGated_locked {r gate : Reg} {data : Word} {s : State}
    (h : s.halted = false ∧ s.cfg.wellFormed = true) (hg : (s.reg gate).getLsbD 0 = false) :
    writeGated r gate data s =
      .next { s with history := s.history ++ [.diag (.lockedWrite r.offset data)] } := by
  simp only [writeGated, running_of_ready h, hg]
  rfl

theorem deliver_in_range {p : Port} {index : BitVec 8} {s : State} {k : Answer}
    (h : s.halted = false ∧ s.cfg.wellFormed = true) (hi : index.toNat < lineCount s.cfg p) :
    deliver p index s k = k := by
  simp [deliver, running_of_ready h, Nat.not_le.mpr hi]

theorem deliver_out_of_range {p : Port} {index : BitVec 8} {s : State} {k : Answer}
    (h : s.halted = false ∧ s.cfg.wellFormed = true) (hi : lineCount s.cfg p ≤ index.toNat) :
    deliver p index s k =
      .next { s with history := s.history ++ [.diag (.indexOutOfRange p index)] } := by
  simp only [deliver, running_of_ready h, hi, if_true]
  rfl

theorem deliver_next_iff {p : Port} {index : BitVec 8} {s t : State} {k : Answer} :
    deliver p index s k = .next t ↔ (s.halted = false ∧ s.cfg.wellFormed = true) ∧
      ((lineCount s.cfg p ≤ index.toNat ∧ t = s.diag (.indexOutOfRange p index)) ∨
       (index.toNat < lineCount s.cfg p ∧ k = .next t)) := by
  unfold deliver
  rw [running_next_iff]
  refine and_congr_right fun _ => ?_
  by_cases hi : lineCount s.cfg p ≤ index.toNat
  · simp [hi, Nat.not_lt.mpr hi, eq_comm]
  · simp [hi, Nat.lt_of_not_le hi]

/-! ## Configuration -/

/-- What a well-formed configuration gives (R8). -/
theorem wellFormed_facts {c : Config} (h : c.wellFormed = true) :
    c.resetCount ≤ 31 ∧ c.resetMask = BitVec.ofNat 32 (2 ^ c.resetCount - 1) ∧
    c.resetCount ≤ c.resetDispatch.length ∧ c.romCount ≤ 8 ∧ c.wakeupCount ≤ 30 ∧
    c.controlReset &&& ~~~c.controlMask = 0#32 ∧ 0x44 ≤ c.mmioSize ∧ c.mmioSize % 4 = 0 := by
  simp only [Config.wellFormed, Bool.and_eq_true, decide_eq_true_eq] at h
  obtain ⟨⟨⟨⟨⟨⟨⟨⟨h1, h2⟩, h3⟩, h4⟩, h5⟩, h6⟩, h7⟩, h8⟩, h9⟩ := h
  exact ⟨h1.trans h2, h3, h4, h5, h6, h7, h8, h9⟩

theorem getLsbD_mask (w n k : Nat) (h : n ≤ w) :
    (BitVec.ofNat w (2 ^ n - 1)).getLsbD k = decide (k < n) := by
  simp only [BitVec.getLsbD_ofNat, Nat.testBit_two_pow_sub_one]
  by_cases hk : k < n <;> simp [hk]
  omega

/-! ## The tick -/

theorem slowStep_ok_iff {s t : State} {b : Bool} : slowStep s = .ok (t, b) ↔
    (s.slow = .reset ∧ t = { s with slow := .idle } ∧ b = true) ∨
    (s.slow = .idle ∧ t = s ∧ b = false) := by
  unfold slowStep
  cases hs : s.slow <;> simp [eq_comm]

/-- A tick that completes (R180): the slow machine was `Reset` or `Idle`, and the fast evaluation ran on the state with
the pending tick taken and `slow = Idle`, reporting a change if the slow machine moved. -/
theorem execTick_next_iff {s t : State} : execTick s = .next t ↔
    (s.halted = false ∧ s.cfg.wellFormed = true) ∧ s.tickPending = true ∧
    ((s.slow = .reset ∧ fastPass true { s with tickPending := false, slow := .idle } = .next t) ∨
     (s.slow = .idle ∧ fastPass false { s with tickPending := false } = .next t)) := by
  unfold execTick tickPass
  rw [running_next_iff]
  refine and_congr_right fun _ => ?_
  cases s.tickPending
  · simp
  · cases hs : s.slow <;> simp [slowStep]

/-- The fast evaluation of a tick (R180): the override of R182 if an escalation is latched, else the table. -/
theorem fastPass_next_iff {b : Bool} {s t : State} : fastPass b s = .next t ↔
    (s.latch.escalate = true ∧ t = (escalateStep s).1.rearmIf ((escalateStep s).2 || b)) ∨
    (s.latch.escalate = false ∧ ∃ u, fastStep s = .ok u ∧ t = u.rearmIf (u.fast != s.fast || b)) := by
  unfold fastPass
  cases s.latch.escalate
  · simp only [Bool.false_eq_true, if_false, false_and, true_and, false_or]
    cases fastStep s <;> simp [eq_comm]
  · simp [eq_comm]

theorem rearmIf_eq (b : Bool) (s : State) :
    s.rearmIf b = { s with tickPending := s.tickPending || b } := by
  cases b <;> simp [State.rearmIf, State.armTick]

/-- R182 in one equation. -/
theorem escalateStep_eq (s : State) : escalateStep s =
    if s.fast = .reqPwrDn then (s, false)
    else ({ s with
      fast := .reqPwrDn
      halted := s.cfg.main || s.halted
      history := s.history ++ if s.cfg.main then [.fatalShutdown] else [] }, true) := by
  unfold escalateStep
  by_cases h : s.fast = .reqPwrDn
  · simp [h]
  · cases hm : s.cfg.main <;> simp [h, State.goto, State.emit]

/-- Component reset's output loop (R270): every line low, and one event for each that was high, in order. -/
theorem lowerOutputs_eq (s : State) : s.lowerOutputs = { s with
    out := Outputs.low
    history := s.history ++ (resetOrder.filter s.out.get).map (Event.line · false) } := by
  obtain ⟨c, r, la, q, sl, f, tp, ct, ⟨o1, o2, o3, o4, o5, o6⟩, ha, hi, re, de, fc⟩ := s
  cases o1 <;> cases o2 <;> cases o3 <;> cases o4 <;> cases o5 <;> cases o6 <;>
    simp [State.lowerOutputs, resetOrder, State.setOut, lineEvents, Outputs.get, Outputs.set, Outputs.low,
      List.filter_cons]

theorem execReset_of_ready {s : State} (h : s.halted = false ∧ s.cfg.wellFormed = true) :
    execReset s = .next
      { State.afterReset s.cfg with
        rst := ⟨.none, ⟨Config.freeCauseToken s.freeCount⟩⟩
        history := s.history ++ (resetOrder.filter s.out.get).map (Event.line · false)
        results := s.results
        deliveries := s.deliveries
        freeCount := s.freeCount + 1 } := by
  rw [execReset, running_of_ready h, lowerOutputs_eq]
  simp [State.armTick, State.dropRequest, State.afterReset, h.1]

/-! ## The step -/

/-- What a completed step is: the delivered word's operation, an operation of the block's own agents, or a wait. -/
theorem step_next_iff {s t : State} : step s = .next t ↔
    (∃ w rest i, s.deliveries = w :: rest ∧ decode s.cfg w = .ok i ∧
      exec i { s with deliveries := rest } = .next t) ∨
    (s.deliveries = [] ∧ ∃ i u, ownAgent s = some (i, u) ∧ exec i u = .next t) ∨
    (s.deliveries = [] ∧ ownAgent s = none ∧ (s.halted = false ∧ s.cfg.wellFormed = true) ∧ t = s) := by
  unfold step
  cases hd : s.deliveries with
  | nil =>
    cases ho : ownAgent s with
    | none =>
      have he : (Host.Outcome.next s : Answer) = .next t ↔ t = s :=
        ⟨fun h => (Host.Outcome.next.inj h).symm, fun h => h ▸ rfl⟩
      simp [running_next_iff, he]
    | some p => obtain ⟨i, u⟩ := p; simp
  | cons w rest =>
    cases hw : decode s.cfg w <;> simp [hw]

/-- The block's own agents move a state that differs at most in the counter of the free values. -/
theorem ownAgent_some {s u : State} {i : Instr} (h : ownAgent s = some (i, u)) :
    (i = .tick ∨ i = .timerExpire) ∧ ∃ n, u = { s with freeCount := n } := by
  unfold ownAgent at h
  split at h
  · obtain ⟨rfl, rfl⟩ := Prod.mk.inj (Option.some.inj h)
    refine ⟨?_, s.freeCount + 1, rfl⟩
    cases Config.freeTimerFirst s.freeCount <;> simp
  · obtain ⟨rfl, rfl⟩ := Prod.mk.inj (Option.some.inj h)
    exact ⟨.inl rfl, s.freeCount, rfl⟩
  · obtain ⟨rfl, rfl⟩ := Prod.mk.inj (Option.some.inj h)
    exact ⟨.inr rfl, s.freeCount, rfl⟩
  · cases h

/-- An invariant that every operation keeps, and that says nothing of the model's own fields, is kept by every step. -/
theorem step_keeps {P : State → Prop} (own : ∀ s ds n, P s → P { s with deliveries := ds, freeCount := n })
    (keep : ∀ i s t, P s → exec i s = .next t → P t) {s t : State} (hs : P s) (h : step s = .next t) : P t := by
  rcases step_next_iff.mp h with ⟨w, rest, i, _, _, hx⟩ | ⟨_, i, u, ho, hx⟩ | ⟨_, _, _, rfl⟩
  · exact keep i _ t (own s rest s.freeCount hs) hx
  · obtain ⟨_, n, rfl⟩ := ownAgent_some ho
    exact keep i _ t (own s s.deliveries n hs) hx
  · exact hs

end Sys2Proof.Machine
end

