-- ==== Sys2Proof/Laws/Machine.lean ====
section
/-! SUPPORT. What an operation can do, said once: one inversion law for the tick, one for every other operation, and the
laws of the invariant's parts that the statements about the whole machine rest on. -/

namespace Sys2Proof.Machine

/-! ## Updates that an operation ignores -/

theorem running_map {s : State} {k k' : Answer} (u : State → State) (h1 : (u s).halted = s.halted)
    (h2 : (u s).cfg = s.cfg) (h : k' = mapNext u k) : running (u s) k' = mapNext u (running s k) := by
  subst h
  unfold running
  rw [h1, h2]
  split
  · rfl
  · split <;> rfl

theorem deliver_map {s : State} {p : Port} {index : BitVec 8} {k k' : Answer} (u : State → State)
    (h1 : (u s).halted = s.halted) (h2 : (u s).cfg = s.cfg)
    (h3 : (u s).diag (.indexOutOfRange p index) = u (s.diag (.indexOutOfRange p index)))
    (h : k' = mapNext u k) : deliver p index (u s) k' = mapNext u (deliver p index s k) := by
  refine running_map u h1 h2 ?_
  rw [h2]
  split
  · rw [h3]; rfl
  · exact h

/-! ## The ROM bitmaps (R191, R192) -/

theorem allRoms_iff {c : Config} (hc : c.romCount ≤ 8) (b : BitVec 8) :
    allRoms c b = true ↔ ∀ k, k < c.romCount → b.getLsbD k = true := by
  unfold allRoms
  rw [beq_iff_eq]
  constructor
  · intro h k hk
    have := congrArg (·.getLsbD k) h
    simp only [BitVec.getLsbD_and, getLsbD_mask _ _ _ hc] at this
    simpa [hk] using this
  · intro h
    refine BitVec.eq_of_getLsbD_eq fun k _ => ?_
    simp only [BitVec.getLsbD_and, getLsbD_mask _ _ _ hc]
    by_cases hk : k < c.romCount <;> simp [hk, h]

/-! ## A tick that reaches the table -/

theorem execTick_of_due {s u : State} (h : s.TableTickDue)
    (hu : fastStep { s with tickPending := false } = .ok u) :
    exec .tick s = .next (u.rearmIf (u.fast != s.fast)) := by
  obtain ⟨hr, hp, hi, he⟩ := h
  refine execTick_next_iff.mpr ⟨hr, hp, .inr ⟨hi, ?_⟩⟩
  exact fastPass_next_iff.mpr (.inr ⟨he, u, hu, by simp⟩)

/-- The fast machine waits for an input (R187, R188, R191, R192). -/
def State.Blocked (s : State) : Prop :=
  s.fast = .otpInit ∧ s.latch.otpDone = false ∨ s.fast = .lcInit ∧ s.latch.lcDone = false ∨
  s.fast = .romCheckDone ∧ allRoms s.cfg s.latch.romDone = false ∨
  s.fast = .romCheckGood ∧ (allRoms s.cfg s.latch.romGood = false ∨ s.latch.holdFetch = true)

/-- A row of the fast-domain table (R183 to R203): from `s` to `t`, where the row moves or acts. -/
inductive TableRow (s : State) : State → Prop where
  | stay : s.Blocked ∨ s.fast = .resetWait ∨ s.fast = .reqPwrDn → TableRow s s
  | lowPower : s.fast = .lowPower → TableRow s { s with fast := .enableClocks }
  | enableClocks : s.fast = .enableClocks → TableRow s { s with fast := .releaseLcReset }
  | releaseLcReset : s.fast = .releaseLcReset →
      TableRow s { s.setOut .otpReq true with fast := .otpInit }
  | otpInit : s.fast = .otpInit → s.latch.otpDone = true →
      TableRow s { (s.setOut .otpReq false).setOut .lcReq true with fast := .lcInit }
  | lcInit : s.fast = .lcInit → s.latch.lcDone = true →
      TableRow s { s.setOut .lcReq false with fast := .ackPwrUp }
  | ackPwrUp : s.fast = .ackPwrUp → TableRow s { s with fast := .strap }
  | strap : s.fast = .strap → TableRow s { s.setOut .strap true with fast := .romCheckDone }
  | romCheckDone : s.fast = .romCheckDone → allRoms s.cfg s.latch.romDone = true →
      TableRow s { s.setOut .strap false with fast := .romCheckGood }
  | romCheckGood : s.fast = .romCheckGood → allRoms s.cfg s.latch.romGood = true →
      s.latch.holdFetch = false → TableRow s { s with fast := .active }
  | activeIdle : s.fast = .active → s.regs.resetStatus = 0#32 → TableRow s (s.setOut .cpuEn true)
  | activeReset : s.fast = .active → s.regs.resetStatus ≠ 0#32 →
      TableRow s { s.setOut .cpuEn false with fast := .disClocks }
  | disClocks : s.fast = .disClocks → TableRow s { s with fast := .resetPrep }
  | unimplemented : s.fast = .fallThrough ∨ s.fast = .nvmIdleChk ∨ s.fast = .lowPowerPrep ∨
      s.fast = .nvmShutDown → TableRow s { s.diag (.unimplementedMode s.fast) with fast := .resetPrep }
  | resetPrepNone : s.fast = .resetPrep → s.rst.domain = .none → TableRow s { s with fast := .resetWait }
  | resetPrep : s.fast = .resetPrep → s.rst.domain ≠ .none →
      TableRow s { (s.emit (.resetReq s.rst.domain s.rst.cause)).dropRequest with fast := .resetWait }

theorem fastStep_ok {s t : State} (h : fastStep s = .ok t) : TableRow s t := by
  unfold fastStep at h
  split at h <;> rename_i hf <;> cases h
  · exact .lowPower hf
  · exact .enableClocks hf
  · exact .releaseLcReset hf
  · unfold stepOtpInit; split
    · exact .otpInit hf ‹_›
    · rename_i hd
      exact .stay (.inl (.inl ⟨hf, by simpa using hd⟩))
  · unfold stepLcInit; split
    · exact .lcInit hf ‹_›
    · rename_i hd
      exact .stay (.inl (.inr (.inl ⟨hf, by simpa using hd⟩)))
  · exact .ackPwrUp hf
  · exact .strap hf
  · unfold stepRomCheckDone; split
    · exact .romCheckDone hf ‹_›
    · rename_i hd
      exact .stay (.inl (.inr (.inr (.inl ⟨hf, by simpa using hd⟩))))
  · unfold stepRomCheckGood; split
    · rename_i hg
      simp only [Bool.and_eq_true, Bool.not_eq_true'] at hg
      exact .romCheckGood hf hg.1 hg.2
    · rename_i hg
      refine .stay (.inl (.inr (.inr (.inr ⟨hf, ?_⟩))))
      cases h : allRoms s.cfg s.latch.romGood <;> simp_all
  · unfold stepActive; split
    · rename_i hr
      exact .activeReset hf (by simpa [State.resetInFlight, State.reg, RegFile.get] using hr)
    · rename_i hr
      exact .activeIdle hf (by simpa [State.resetInFlight, State.reg, RegFile.get] using hr)
  · exact .disClocks hf
  · exact .unimplemented (.inl hf)
  · exact .unimplemented (.inr (.inl hf))
  · exact .unimplemented (.inr (.inr (.inl hf)))
  · exact .unimplemented (.inr (.inr (.inr hf)))
  · unfold stepResetPrep; split
    · exact .resetPrepNone hf ‹_›
    · exact .resetPrep hf ‹_›
  · exact .stay (.inr (.inl hf))
  · exact .stay (.inr (.inr hf))

/-- What the fast evaluation of a tick leaves, but for `slow` and the pending tick (R180). -/
inductive FastMove (s : State) : State → Prop where
  | shutDown : s.latch.escalate = true → s.fast = .reqPwrDn → FastMove s s
  | escalate : s.latch.escalate = true → s.fast ≠ .reqPwrDn → FastMove s { s with
      fast := .reqPwrDn
      halted := s.cfg.main
      history := s.history ++ if s.cfg.main then [.fatalShutdown] else [] }
  | table {u : State} : s.latch.escalate = false → TableRow s u → FastMove s u

/-- A row reads neither `slow` nor the pending tick. -/
theorem TableRow.relabel {s u : State} (sl : SlowState) (b : Bool) (h : TableRow s u) :
    TableRow { s with slow := sl, tickPending := b } { u with slow := sl, tickPending := b } := by
  cases h
  case stay hf => exact .stay hf
  case lowPower hf => exact .lowPower hf
  case enableClocks hf => exact .enableClocks hf
  case releaseLcReset hf => exact .releaseLcReset hf
  case otpInit hf hd => exact .otpInit hf hd
  case lcInit hf hd => exact .lcInit hf hd
  case ackPwrUp hf => exact .ackPwrUp hf
  case strap hf => exact .strap hf
  case romCheckDone hf hd => exact .romCheckDone hf hd
  case romCheckGood hf hd hh => exact .romCheckGood hf hd hh
  case activeIdle hf hd => exact .activeIdle hf hd
  case activeReset hf hd => exact .activeReset hf hd
  case disClocks hf => exact .disClocks hf
  case unimplemented hf => exact .unimplemented hf
  case resetPrepNone hf hd => exact .resetPrepNone hf hd
  case resetPrep hf hd => exact .resetPrep hf hd

theorem TableRow.frame {s u : State} (h : TableRow s u) : u.slow = s.slow ∧ u.tickPending = s.tickPending ∧
    u.cfg = s.cfg ∧ u.regs = s.regs ∧ u.latch = s.latch ∧ u.cdcTimerArmed = s.cdcTimerArmed ∧
    u.halted = s.halted ∧ u.results = s.results ∧ u.deliveries = s.deliveries ∧
    u.out.wakeIrq = s.out.wakeIrq := by
  cases h <;> exact ⟨rfl, rfl, rfl, rfl, rfl, rfl, rfl, rfl, rfl, rfl⟩

theorem fastPass_move {c : Bool} {s t : State} (hh : s.halted = false) (h : fastPass c s = .next t) :
    ∃ u, FastMove s u ∧ t = { u with tickPending := s.tickPending || (u.fast != s.fast || c) } := by
  rcases fastPass_next_iff.mp h with ⟨he, rfl⟩ | ⟨he, u, hu, rfl⟩
  · by_cases hf : s.fast = .reqPwrDn
    · refine ⟨s, .shutDown he hf, ?_⟩
      rw [rearmIf_eq, escalateStep_eq, if_pos hf]
      simp
    · refine ⟨_, .escalate he hf, ?_⟩
      have hb : (FastState.reqPwrDn != s.fast) = true := by simpa using Ne.symm hf
      rw [rearmIf_eq, escalateStep_eq, if_neg hf]
      simp only [hh, Bool.or_false, hb, Bool.true_or]
  · have hr := fastStep_ok hu
    refine ⟨u, .table he hr, ?_⟩
    rw [rearmIf_eq, hr.frame.2.1]

/-- Everything a completed tick can do (R180): the slow machine ends `Idle`; an escalation moves to `ReqPwrDn`, or stays
there; otherwise one row of the table. The next tick is armed iff one of the two machines moved. -/
theorem tick_cases {s t : State} (h : exec .tick s = .next t) :
    s.Ready ∧ s.tickPending = true ∧ (s.slow = .reset ∨ s.slow = .idle) ∧
    ∃ u, FastMove s u ∧
      t = { u with slow := .idle, tickPending := u.fast != s.fast || s.slow == .reset } := by
  obtain ⟨hr, hp, hx⟩ := execTick_next_iff.mp h
  have key : ∀ c, c = (s.slow == .reset) →
      fastPass c { s with tickPending := false, slow := .idle } = .next t →
      ∃ u, FastMove s u ∧
        t = { u with slow := .idle, tickPending := u.fast != s.fast || s.slow == .reset } := by
    rintro c rfl hc
    obtain ⟨u, hu, rfl⟩ :=
      fastPass_move (s := { s with tickPending := false, slow := .idle }) hr.1 hc
    refine ⟨{ u with slow := s.slow, tickPending := s.tickPending }, ?_, ?_⟩
    · cases hu
      case shutDown he hf => exact .shutDown he hf
      case escalate he hf => exact .escalate he hf
      case table he hu => exact .table he (hu.relabel s.slow s.tickPending)
    · have : u.slow = .idle := by
        cases hu
        case table _ hu => exact hu.frame.1
        all_goals rfl
      simp [← this]
  rcases hx with ⟨hs, hx⟩ | ⟨hs, hx⟩
  · exact ⟨hr, hp, .inl hs, key true (by rw [hs]; rfl) hx⟩
  · refine ⟨hr, hp, .inr hs, key false (by rw [hs]; rfl) ?_⟩
    rw [← hs]
    exact hx

/-! ## Every operation but the tick -/

/-- What an operation other than TICK does to a block that is ready (40_register_access.md, 41_signal_inputs.md, R230,
R270): the state it ends in, and the conditions under which it does more than report. -/
inductive Effect (s : State) : Instr → State → Prop where
  | read (i : Instr) (es : List Event) (r : ReadResult) : isRead i = true → (∀ e ∈ es, ∃ d, e = .diag d) →
      Effect s i { s with history := s.history ++ es, results := s.results ++ [r] }
  | nothing (i : Instr) : isRead i = false → armsTick s i = false → Effect s i s
  | report (i : Instr) (d : Diag) : isRead i = false → armsTick s i = false → Effect s i (s.diag d)
  | intrState (data : Word) : Effect s (.writeIntrState data) (s.storeRW1C .intrState data).updateIrq
  | intrEnable (data : Word) : Effect s (.writeIntrEnable data) (s.storeRW .intrEnable data).updateIrq
  | intrTest (data : Word) : Effect s (.writeIntrTest data)
      (s.setReg .intrState (rw1s s.regs.intrState (data &&& 1#32))).updateIrq
  | alert (data : Word) : data.getLsbD 0 = true → Effect s (.writeAlertTest data) (s.setOut .alert true)
  | control (data : Word) : s.regs.ctrlCfgRegwen.getLsbD 0 = true →
      Effect s (.writeControl data) (s.storeRW .control data)
  | cdcSync (data : Word) : data.getLsbD 0 = true → Effect s (.writeCfgCdcSync data)
      { s.setReg .cfgCdcSync (s.regs.cfgCdcSync ||| 1#32) with cdcTimerArmed := true }
  | wakeupEnRegwen (data : Word) : Effect s (.writeWakeupEnRegwen data) (s.storeRW0C .wakeupEnRegwen data)
  | wakeupEn (data : Word) : s.regs.wakeupEnRegwen.getLsbD 0 = true →
      Effect s (.writeWakeupEn data) (s.storeRW .wakeupEn data)
  | resetEnRegwen (data : Word) : Effect s (.writeResetEnRegwen data) (s.storeRW0C .resetEnRegwen data)
  | resetEn (data : Word) : s.regs.resetEnRegwen.getLsbD 0 = true →
      Effect s (.writeResetEn data) (s.storeRW .resetEn data)
  | captureDis (data : Word) :
      Effect s (.writeWakeInfoCaptureDis data) (s.storeRW .wakeInfoCaptureDis data)
  | wakeInfo (data : Word) : Effect s (.writeWakeInfo data) (s.storeRW1C .wakeInfo data)
  | romGood (index : BitVec 8) : index.toNat < s.cfg.romCount →
      Effect s (.lineRomGood index true) (s.latchRomGood index.toNat).armTick
  | romDone (index : BitVec 8) : index.toNat < s.cfg.romCount →
      Effect s (.lineRomDone index true) (s.latchRomDone index.toNat).armTick
  | hwReset (index : BitVec 8) (cause : ResetCause) : index.toNat < s.cfg.resetCount →
      s.regs.resetStatus = 0#32 → s.regs.resetEn.getLsbD index.toNat = true →
      Effect s (.lineRstReq index true) (s.latchHwReset.acceptReset index.toNat cause)
  | swReset : s.regs.resetStatus = 0#32 → Effect s (.lineSwRstReq 0#8 true)
      (s.latchSwReset.acceptReset s.cfg.resetCount s.cfg.swResetCause)
  | lcRsp : Effect s (.lineLcRsp 0#8 true) s.latchLcDone.armTick
  | otpRsp : Effect s (.lineOtpRsp 0#8 true) s.latchOtpDone.armTick
  | escalate : Effect s (.lineEscalate 0#8 true)
      (s.latchEscalate.setReg .escalateResetStatus 1#32).armTick
  | holdFetch (level : Bool) : s.cfg.fetchCtrl = true →
      Effect s (.lineHoldFetch 0#8 level) (s.latchHoldFetch level).armTick
  | timerExpire : s.cdcTimerArmed = true → Effect s .timerExpire
      { s.setReg .cfgCdcSync (s.regs.cfgCdcSync &&& ~~~1#32) with cdcTimerArmed := false }
  | reset : Effect s .reset
      { State.afterReset s.cfg with
        rst := ⟨.none, ⟨Config.freeCauseToken s.freeCount⟩⟩
        history := s.history ++ (resetOrder.filter s.out.get).map (Event.line · false)
        results := s.results
        deliveries := s.deliveries
        freeCount := s.freeCount + 1 }

section
variable {s t : State}

theorem readStored_effect {i : Instr} {r : Reg} (hi : isRead i = true) (h : readStored r s = .next t) :
    Effect s i t := by
  obtain ⟨hr, h⟩ := running_next_iff.mp h
  obtain rfl := Host.Outcome.next.inj h
  simpa [State.answer] using Effect.read i [] ⟨s.reg r, true⟩ hi (by simp)

theorem readWriteOnly_effect {i : Instr} {r : Reg} (hi : isRead i = true) (h : readWriteOnly r s = .next t) :
    Effect s i t := by
  obtain ⟨hr, h⟩ := running_next_iff.mp h
  obtain rfl := Host.Outcome.next.inj h
  exact .read i [.diag (.writeOnlyRead r.offset)] ⟨0#32, true⟩ hi (by simp)

theorem writeReadOnly_effect {i : Instr} {r : Reg} {data : Word} (hi : isRead i = false)
    (ha : armsTick s i = false) (h : writeReadOnly r data s = .next t) : Effect s i t := by
  obtain ⟨hr, h⟩ := running_next_iff.mp h
  obtain rfl := Host.Outcome.next.inj h
  exact .report i _ hi ha

theorem writeGated_effect {i : Instr} {r gate : Reg} {data : Word} (hi : isRead i = false)
    (ha : armsTick s i = false) (ho : (s.reg gate).getLsbD 0 = true → Effect s i (s.storeRW r data))
    (h : writeGated r gate data s = .next t) : Effect s i t := by
  obtain ⟨hr, h⟩ := running_next_iff.mp h
  obtain rfl := Host.Outcome.next.inj h
  split
  · exact ho ‹_›
  · exact .report i _ hi ha

/-- A delivery: out of range, or its port's own rule. -/
theorem deliver_effect {i : Instr} {p : Port} {index : BitVec 8} {k : Answer} (hi : isRead i = false)
    (ho : lineCount s.cfg p ≤ index.toNat → armsTick s i = false)
    (hk : index.toNat < lineCount s.cfg p → k = .next t → Effect s i t)
    (h : deliver p index s k = .next t) : Effect s i t := by
  rcases (deliver_next_iff.mp h).2 with ⟨hn, rfl⟩ | ⟨hn, h⟩
  · exact .report i _ hi (ho hn)
  · exact hk hn h

end

theorem eq_zero_of_lt_one {index : BitVec 8} (h : index.toNat < 1) : index = 0#8 :=
  BitVec.eq_of_toNat_eq (by simp; omega)

theorem ne_zero_of_one_le {index : BitVec 8} (h : 1 ≤ index.toNat) : (index == 0#8) = false := by
  rw [beq_eq_false_iff_ne]
  rintro rfl
  simp at h

/-- Every completed operation other than TICK is one of these effects, on a block that is ready. -/
theorem exec_effect {i : Instr} {s t : State} (hi : i ≠ .tick) (h : exec i s = .next t) : Effect s i t := by
  have hr := exec_ready h
  cases i
  case tick => exact absurd rfl hi
  case readIntrTest => exact readWriteOnly_effect rfl h
  case readAlertTest => exact readWriteOnly_effect rfl h
  case readUnmapped offset =>
    obtain ⟨_, h⟩ := running_next_iff.mp h
    obtain rfl := Host.Outcome.next.inj h
    exact .read _ [.diag (.badOffsetRead offset)] ⟨0#32, false⟩ rfl (by simp)
  case readResetStatus =>
    obtain ⟨_, h⟩ := running_next_iff.mp h
    obtain rfl := Host.Outcome.next.inj h
    simpa [State.answer] using Effect.read .readResetStatus [] ⟨_, true⟩ rfl (by simp)
  case writeCtrlCfgRegwen => exact writeReadOnly_effect rfl rfl h
  case writeWakeStatus => exact writeReadOnly_effect rfl rfl h
  case writeResetStatus => exact writeReadOnly_effect rfl rfl h
  case writeEscalateResetStatus => exact writeReadOnly_effect rfl rfl h
  case writeFaultStatus => exact writeReadOnly_effect rfl rfl h
  case writeControl data => exact writeGated_effect rfl rfl (.control data) h
  case writeWakeupEn data => exact writeGated_effect rfl rfl (.wakeupEn data) h
  case writeResetEn data => exact writeGated_effect rfl rfl (.resetEn data) h
  case lineRomGood index level =>
    refine deliver_effect rfl (fun hn => ?_) (fun hn h => ?_) h
    · simpa [armsTick, lineCount] using fun _ => hn
    · obtain rfl := Host.Outcome.next.inj h
      cases level
      · exact .nothing _ rfl rfl
      · exact .romGood index hn
  case lineRomDone index level =>
    refine deliver_effect rfl (fun hn => ?_) (fun hn h => ?_) h
    · simpa [armsTick, lineCount] using fun _ => hn
    · obtain rfl := Host.Outcome.next.inj h
      cases level
      · exact .nothing _ rfl rfl
      · exact .romDone index hn
  case lineWakeup index level =>
    refine deliver_effect rfl (fun hn => rfl) (fun hn h => ?_) h
    obtain rfl := Host.Outcome.next.inj h
    cases level
    · exact .nothing _ rfl rfl
    · exact .report _ _ rfl rfl
  case lineRstReq index level =>
    obtain ⟨_, h⟩ := running_next_iff.mp h
    have hm := (wellFormed_facts hr.2).2.1
    have hc := (wellFormed_facts hr.2).1
    split at h
    · obtain rfl := Host.Outcome.next.inj h
      exact .report _ _ rfl (by simp [armsTick, Nat.not_lt.mpr ‹_›])
    · rename_i hn
      have hn := Nat.lt_of_not_le hn
      cases level
      · obtain rfl := Host.Outcome.next.inj h
        exact .nothing _ rfl rfl
      · by_cases hs : s.regs.resetStatus = 0#32
        · by_cases he : s.regs.resetEn.getLsbD index.toNat = true
          · simp only [Bool.not_true, Bool.false_eq_true, if_false, State.resetInFlight, State.reg, RegFile.get,
              hs, bne_self_eq_false, he, Bool.and_false] at h
            split at h
            · obtain rfl := Host.Outcome.next.inj h
              exact .hwReset index _ hn hs he
            · cases h
          · rw [Bool.not_eq_true] at he
            have hk : s.cfg.resetMask.getLsbD index.toNat = true := by
              rw [hm, getLsbD_mask 32 _ _ (by omega)]; simpa using hn
            simp only [Bool.not_true, Bool.false_eq_true, if_false, State.resetInFlight, State.reg, RegFile.get,
              hs, bne_self_eq_false, he, hk, Bool.not_false, Bool.and_self, if_true] at h
            obtain rfl := Host.Outcome.next.inj h
            exact .report _ _ rfl (by simp [armsTick, he])
        · have hf : s.resetInFlight = true := by simpa [State.resetInFlight, State.reg, RegFile.get] using hs
          simp only [Bool.not_true, Bool.false_eq_true, if_false, hf, if_true] at h
          obtain rfl := Host.Outcome.next.inj h
          exact .report _ _ rfl (by simp [armsTick, hs])
  case lineSwRstReq index level =>
    refine deliver_effect rfl (fun hn => ?_) (fun hn h => ?_) h
    · simp [armsTick, ne_zero_of_one_le hn]
    · obtain rfl := Host.Outcome.next.inj h
      obtain rfl := eq_zero_of_lt_one hn
      cases level
      · exact .nothing _ rfl rfl
      · by_cases hs : s.regs.resetStatus = 0#32
        · have hf : s.resetInFlight = false := by simp [State.resetInFlight, State.reg, RegFile.get, hs]
          simpa [hf] using Effect.swReset hs
        · have hf : s.resetInFlight = true := by simpa [State.resetInFlight, State.reg, RegFile.get] using hs
          simpa [hf] using Effect.report (.lineSwRstReq 0#8 true) (.resetOngoing .swRstReq 0#8) rfl
            (by simp [armsTick, hs])
  case lineLcRsp index level =>
    refine deliver_effect rfl (fun hn => ?_) (fun hn h => ?_) h
    · simp [armsTick, ne_zero_of_one_le hn]
    · obtain rfl := Host.Outcome.next.inj h
      obtain rfl := eq_zero_of_lt_one hn
      cases level
      · exact .nothing _ rfl rfl
      · exact .lcRsp
  case lineOtpRsp index level =>
    refine deliver_effect rfl (fun hn => ?_) (fun hn h => ?_) h
    · simp [armsTick, ne_zero_of_one_le hn]
    · obtain rfl := Host.Outcome.next.inj h
      obtain rfl := eq_zero_of_lt_one hn
      cases level
      · exact .nothing _ rfl rfl
      · exact .otpRsp
  case lineEscalate index level =>
    refine deliver_effect rfl (fun hn => ?_) (fun hn h => ?_) h
    · simp [armsTick, ne_zero_of_one_le hn]
    · obtain rfl := Host.Outcome.next.inj h
      obtain rfl := eq_zero_of_lt_one hn
      cases level
      · exact .nothing _ rfl rfl
      · exact .escalate
  case lineHoldFetch index level =>
    refine deliver_effect rfl (fun hn => ?_) (fun hn h => ?_) h
    · simp [armsTick, ne_zero_of_one_le hn]
    · obtain rfl := Host.Outcome.next.inj h
      obtain rfl := eq_zero_of_lt_one hn
      cases hf : s.cfg.fetchCtrl
      · exact .report _ _ rfl (by simp [armsTick, hf])
      · exact .holdFetch level hf
  case timerExpire =>
    obtain ⟨_, h⟩ := running_next_iff.mp h
    cases ha : s.cdcTimerArmed
    · simp [ha] at h
    · rw [ha] at h
      obtain rfl := Host.Outcome.next.inj h
      exact .timerExpire ha
  case reset =>
    obtain rfl := Host.Outcome.next.inj ((execReset_of_ready hr).symm.trans h)
    exact .reset
  case writeIntrState data =>
    obtain rfl := Host.Outcome.next.inj (running_next_iff.mp h).2
    exact .intrState data
  case writeIntrEnable data =>
    obtain rfl := Host.Outcome.next.inj (running_next_iff.mp h).2
    exact .intrEnable data
  case writeIntrTest data =>
    obtain rfl := Host.Outcome.next.inj (running_next_iff.mp h).2
    exact .intrTest data
  case writeWakeupEnRegwen data =>
    obtain rfl := Host.Outcome.next.inj (running_next_iff.mp h).2
    exact .wakeupEnRegwen data
  case writeResetEnRegwen data =>
    obtain rfl := Host.Outcome.next.inj (running_next_iff.mp h).2
    exact .resetEnRegwen data
  case writeWakeInfoCaptureDis data =>
    obtain rfl := Host.Outcome.next.inj (running_next_iff.mp h).2
    exact .captureDis data
  case writeWakeInfo data =>
    obtain rfl := Host.Outcome.next.inj (running_next_iff.mp h).2
    exact .wakeInfo data
  case writeUnmapped offset data =>
    obtain rfl := Host.Outcome.next.inj (running_next_iff.mp h).2
    exact .report _ _ rfl rfl
  case writeAlertTest data =>
    obtain rfl := Host.Outcome.next.inj (running_next_iff.mp h).2
    have : (s.masked .alertTest data).getLsbD 0 = data.getLsbD 0 := by simp [State.masked, legal]
    rw [this]
    split
    · exact .alert data ‹_›
    · exact .nothing _ rfl rfl
  case writeCfgCdcSync data =>
    obtain rfl := Host.Outcome.next.inj (running_next_iff.mp h).2
    have hm : s.masked .cfgCdcSync data = if data.getLsbD 0 then 1#32 else 0#32 := by
      show data &&& 1#32 = _
      rw [BitVec.and_one_eq_setWidth_ofBool_getLsbD]
      cases data.getLsbD 0 <;> rfl
    rw [hm]
    cases h0 : data.getLsbD 0
    · simpa [rw1s, State.setReg, State.reg, RegFile.get, RegFile.set] using
        Effect.nothing (.writeCfgCdcSync data) (s := s) rfl rfl
    · simpa [rw1s, State.reg, RegFile.get] using Effect.cdcSync (s := s) data h0
  all_goals exact readStored_effect rfl h

end Sys2Proof.Machine
end

