-- ==== Sys2Proof/Laws/Fairness.lean ====
section
/-! SUPPORT. The runs of R67: those that the step takes by itself are admitted, whatever was delivered; and the half of
R204 that needs fairness, that an admitted run with every boot input latched reaches `Active`. -/

namespace Sys2Proof.Machine

/-! ## Every step is a move of a run -/

theorem step_move {s t : State} (h : step s = .next t) : Move s (stepOp s) t := by
  rcases step_next_iff.mp h with ⟨w, rest, i, hd, hw, hx⟩ | ⟨hd, i, u, ho, hx⟩ | ⟨hd, ho, _, rfl⟩
  · simp only [stepOp, hd, hw]
    exact ⟨decode_wellFormed hw, rest, s.freeCount, hx⟩
  · obtain ⟨hi, n, rfl⟩ := ownAgent_some ho
    simp only [stepOp, hd, ho]
    exact ⟨by rcases hi with rfl | rfl <;> rfl, s.deliveries, n, hx⟩
  · simp only [stepOp, hd, ho]
    exact ⟨t.deliveries, t.freeCount, rfl⟩

theorem exec_deliveries {i : Instr} {s t : State} (h : exec i s = .next t) : t.deliveries = s.deliveries := by
  by_cases hi : i = .tick
  · subst hi
    have hx := tick_cases h
    clear h
    obtain ⟨_, _, _, u, hu, rfl⟩ := hx
    cases hu
    case table _ hu => exact hu.frame.2.2.2.2.2.2.2.2.1
    all_goals rfl
  · cases exec_effect hi h <;> rfl

theorem timerExpire_disarms {s t : State} (h : exec .timerExpire s = .next t) : t.cdcTimerArmed = false := by
  obtain ⟨_, h⟩ := running_next_iff.mp h
  cases ha : s.cdcTimerArmed
  · simp [ha] at h
  · rw [ha] at h
    obtain rfl := Host.Outcome.next.inj h
    rfl

/-- A step takes the first delivery, if there is one. -/
theorem step_deliveries {s t : State} (h : step s = .next t) : t.deliveries = s.deliveries.tail := by
  rcases step_next_iff.mp h with ⟨w, rest, i, hd, _, hx⟩ | ⟨hd, i, u, ho, hx⟩ | ⟨hd, _, _, rfl⟩
  · rw [exec_deliveries hx, hd]
    rfl
  · obtain ⟨_, n, rfl⟩ := ownAgent_some ho
    rw [exec_deliveries hx]
    show s.deliveries = _
    rw [hd]
    rfl
  · rw [hd]
    rfl

/-! ## The scheduler comes to rest -/

/-- How many more ticks can arm the next one: the table only moves forward. -/
def ticksLeft (s : State) : Nat :=
  (if s.slow = .reset then 1 else 0) +
    if s.latch.escalate then (if s.fast = .reqPwrDn then 0 else 1) else 19 - s.fast.number

/-- A row moves forward, or not at all. -/
theorem TableRow.forward {s u : State} (h : TableRow s u) :
    u.fast = s.fast ∨ s.fast.number < u.fast.number ∧ u.fast.number ≤ 17 := by
  cases h
  case stay | activeIdle => exact .inl rfl
  case unimplemented hf => rcases hf with hf | hf | hf | hf <;> simp [hf, FastState.number]
  all_goals
    right
    simp_all [FastState.number]

theorem tick_ticksLeft {s t : State} (h : exec .tick s = .next t) (hp : t.tickPending = true) :
    ticksLeft t < ticksLeft s := by
  have hx := tick_cases h
  clear h
  obtain ⟨_, _, hs, u, hu, rfl⟩ := hx
  have hslow : s.slow = .reset ∨ u.fast ≠ s.fast := by
    simp only [Bool.or_eq_true, bne_iff_ne, beq_iff_eq] at hp
    exact hp.symm
  cases hu
  case shutDown he hf =>
    have : s.slow = .reset := by simpa using hslow
    simp [ticksLeft, he, hf, this]
  case escalate he hf =>
    simp only [ticksLeft, he, if_true, if_neg hf, reduceCtorEq, if_false]
    omega
  case table he hu =>
    have hl : u.latch.escalate = false := by rw [hu.frame.2.2.2.2.1]; exact he
    simp only [ticksLeft, he, hl, Bool.false_eq_true, if_false, reduceCtorEq]
    rcases hu.forward with hf | ⟨hf, h17⟩
    · rcases hslow with hslow | hslow
      · simp only [hf, hslow, if_true]
        omega
      · exact absurd hf hslow
    · have : u.fast.number < 19 := by omega
      omega

/-! ## The step's own runs are admitted -/

section
variable {state : Nat → State} (h : ∀ n, step (state n) = .next (state (n + 1)))
include h

theorem run_deliveries (n : Nat) : (state n).deliveries = (state 0).deliveries.drop n := by
  induction n with
  | zero => rfl
  | succ n ih => rw [step_deliveries (h n), ih, List.tail_drop]

/-- From some place on nothing is delivered. -/
theorem run_quiet : ∃ N, ∀ m, N ≤ m → (state m).deliveries = [] :=
  ⟨(state 0).deliveries.length, fun m hm => by rw [run_deliveries h, List.drop_eq_nil_of_le hm]⟩

/-- With nothing delivered and the timer armed, either the timer expires or a tick is taken. -/
theorem run_armed {m : Nat} (hd : (state m).deliveries = []) (ha : (state m).cdcTimerArmed = true) :
    stepOp (state m) = some .timerExpire ∨
    stepOp (state m) = some .tick ∧ (state m).tickPending = true ∧
      ∃ k, exec .tick { state m with freeCount := k } = .next (state (m + 1)) := by
  cases hp : (state m).tickPending
  · exact .inl (by simp [stepOp, hd, ownAgent, hp, ha])
  · cases hf : Config.freeTimerFirst (state m).freeCount
    · refine .inr ⟨by simp [stepOp, hd, ownAgent, hp, ha, hf], rfl, (state m).freeCount + 1, ?_⟩
      have := h m
      simpa [step, hd, ownAgent, hp, ha, hf] using this
    · exact .inl (by simp [stepOp, hd, ownAgent, hp, ha, hf])

theorem run_serves_scheduler : Served State.TickEnabled .tick state (fun n => stepOp (state n)) := by
  intro n hn
  obtain ⟨N, hN⟩ := run_quiet h
  have hq := hN (max n N) (Nat.le_max_right ..)
  have hp := (hn (max n N) (Nat.le_max_left ..)).2
  cases ha : (state (max n N)).cdcTimerArmed
  · exact ⟨max n N, Nat.le_max_left .., by simp [stepOp, hq, ownAgent, hp, ha]⟩
  · rcases run_armed h hq ha with ho | ⟨ho, _⟩
    · refine ⟨max n N + 1, by omega, ?_⟩
      have hq' := hN (max n N + 1) (by omega)
      have hp' := (hn (max n N + 1) (by omega)).2
      have ha' : (state (max n N + 1)).cdcTimerArmed = false := by
        have hm := step_move (h (max n N))
        rw [ho] at hm
        obtain ⟨_, ds, k, hm⟩ := hm
        exact timerExpire_disarms hm
      simp [stepOp, hq', ownAgent, hp', ha']
    · exact ⟨max n N, Nat.le_max_left .., ho⟩

theorem run_serves_timer : Served State.TimerEnabled .timerExpire state (fun n => stepOp (state n)) := by
  intro n hn
  by_contra hc
  have hc : ∀ m, n ≤ m → stepOp (state m) ≠ some .timerExpire := fun m hm ho => hc ⟨m, hm, ho⟩
  obtain ⟨N, hN⟩ := run_quiet h
  have hticks : ∀ m, max n N ≤ m → (state m).tickPending = true ∧
      ∃ k, exec .tick { state m with freeCount := k } = .next (state (m + 1)) := fun m hm =>
    (run_armed h (hN m (by omega)) (hn m (by omega)).2).elim
      (fun ho => absurd ho (hc m (by omega))) (·.2)
  have hdown : ∀ j, ticksLeft (state (max n N + j)) + j ≤ ticksLeft (state (max n N)) := by
    intro j
    induction j with
    | zero => exact Nat.le_refl _
    | succ j ih =>
      obtain ⟨_, k, hx⟩ := hticks (max n N + j) (by omega)
      have : ticksLeft (state (max n N + j + 1)) < ticksLeft (state (max n N + j)) :=
        tick_ticksLeft (s := { state (max n N + j) with freeCount := k }) hx
          (hticks (max n N + j + 1) (by omega)).1
      show ticksLeft (state (max n N + j + 1)) + (j + 1) ≤ _
      omega
  have := hdown (ticksLeft (state (max n N)) + 1)
  omega

/-- R67: a run of steps is admitted, for every list of deliveries it starts with. -/
theorem step_run_admitted : Admitted state (fun n => stepOp (state n)) :=
  ⟨fun n => step_move (h n), run_serves_scheduler h, run_serves_timer h⟩

end

/-! ## Progress under fairness (R204) -/

/-- A block on its way up: it runs, has not passed `Active`, and a tick is pending unless it waits for an input or is
there. -/
structure Rising (s : State) : Prop where
  running : s.halted = false
  before : s.fast.number ≤ 9
  pending : s.tickPending = true ∨ s.slow = .idle ∧ (s.Blocked ∨ s.fast = .active)

/-- The run has no escalation, request or fetch hold at this place (R204's premises). -/
def Undisturbed (s : State) : Prop :=
  s.latch.escalate = false ∧ s.regs.resetStatus = 0#32 ∧ s.latch.holdFetch = false

/-- Every boot input is latched (R204). -/
def InputsLatched (s : State) : Prop :=
  s.latch.otpDone = true ∧ s.latch.lcDone = true ∧
  ∀ k, k < s.cfg.romCount → s.latch.romDone.getLsbD k = true ∧ s.latch.romGood.getLsbD k = true

theorem blocked_not_latched {s : State} (hc : s.cfg.romCount ≤ 8) (hi : InputsLatched s) (hu : Undisturbed s) :
    ¬s.Blocked := by
  obtain ⟨h1, h2, h3⟩ := hi
  have hd := (allRoms_iff hc s.latch.romDone).mpr fun k hk => (h3 k hk).1
  have hg := (allRoms_iff hc s.latch.romGood).mpr fun k hk => (h3 k hk).2
  unfold State.Blocked
  simp [h1, h2, hd, hg, hu.2.2]

/-- A row in a block on its way up: one state forward, or none, and then it waits or is in `Active`. -/
theorem TableRow.rises {s u : State} (h : TableRow s u) (hb : s.fast.number ≤ 9) (hu : s.regs.resetStatus = 0#32) :
    u.fast.number = s.fast.number + 1 ∧ s.fast.number < 9 ∨
    u.fast = s.fast ∧ (s.Blocked ∨ s.fast = .active) := by
  cases h
  case stay hf =>
    rcases hf with hf | hf | hf
    · exact .inr ⟨rfl, .inl hf⟩
    all_goals simp [hf, FastState.number] at hb
  case activeIdle hf _ => exact .inr ⟨rfl, .inr hf⟩
  case activeReset hf hr => exact absurd hu hr
  case unimplemented hf => rcases hf with hf | hf | hf | hf <;> simp [hf, FastState.number] at hb
  all_goals
    simp_all [FastState.number]

/-- What a tick does to a block on its way up. -/
theorem tick_rises {s t : State} (hs : Rising s) (hu : Undisturbed s) (h : exec .tick s = .next t) :
    Rising t ∧ (t.fast.number = s.fast.number + 1 ∨ t.fast = s.fast ∧ (s.Blocked ∨ s.fast = .active)) := by
  have hx := tick_cases h
  clear h
  obtain ⟨_, _, _, u, hm, rfl⟩ := hx
  cases hm
  case shutDown he _ => rw [hu.1] at he; cases he
  case escalate he _ => rw [hu.1] at he; cases he
  case table _ hr =>
    have hh : u.halted = false := by rw [hr.frame.2.2.2.2.2.2.1]; exact hs.running
    rcases hr.rises hs.before hu.2.1 with ⟨hf, h9⟩ | ⟨hf, hw⟩
    · refine ⟨⟨hh, ?_, .inl ?_⟩, .inl hf⟩
      · show u.fast.number ≤ 9
        omega
      · have : u.fast ≠ s.fast := fun e => by rw [e] at hf; omega
        simp [this]
    · refine ⟨⟨hh, by rw [hf]; exact hs.before, .inr ⟨rfl, ?_⟩⟩, .inr ⟨hf, hw⟩⟩
      rcases hw with hw | hw
      · left
        unfold State.Blocked at hw ⊢
        simpa [hf, hr.frame.2.2.1, hr.frame.2.2.2.2.1] using hw
      · exact .inr (hf.trans hw)

/-- What any other operation but RESET does to it: it stays where it is, and what is latched stays latched. -/
theorem other_rises {i : Instr} {s t : State} (hi : i ≠ .tick) (hr : i ≠ .reset) (hs : Rising s)
    (h : exec i s = .next t) : Rising t ∧ t.fast = s.fast := by
  have hk : ∀ u : State, u.halted = s.halted → u.slow = s.slow → u.fast = s.fast → u.cfg = s.cfg →
      (u.tickPending = true ∨ u.tickPending = s.tickPending ∧ u.latch = s.latch) → Rising u := by
    intro u h1 h2 h3 h4 h5
    refine ⟨h1.trans hs.running, h3 ▸ hs.before, ?_⟩
    rcases h5 with h5 | ⟨h5, h6⟩
    · exact .inl h5
    · have := hs.pending
      unfold State.Blocked at this ⊢
      simpa only [h2, h3, h4, h5, h6] using this
  cases exec_effect hi h
  case reset => exact absurd rfl hr
  all_goals first
    | exact ⟨hk _ rfl rfl rfl rfl (.inr ⟨rfl, rfl⟩), rfl⟩
    | exact ⟨hk _ rfl rfl rfl rfl (.inl rfl), rfl⟩

/-- No operation but RESET takes a boot input back, or changes the configuration. -/
theorem exec_keeps_inputs {i : Instr} {s t : State} (hr : i ≠ .reset) (h : exec i s = .next t) :
    t.cfg = s.cfg ∧ (InputsLatched s → InputsLatched t) := by
  by_cases hi : i = .tick
  · subst hi
    have hx := tick_cases h
    clear h
    obtain ⟨_, _, _, u, hm, rfl⟩ := hx
    cases hm
    case table _ hu =>
      unfold InputsLatched
      simp only [hu.frame.2.2.1, hu.frame.2.2.2.2.1]
      exact ⟨trivial, id⟩
    all_goals exact ⟨rfl, id⟩
  · have hor : ∀ {a b : BitVec 8} {k : Nat}, a.getLsbD k = true → (a ||| b).getLsbD k = true := fun ha => by
      rw [BitVec.getLsbD_or, ha]; rfl
    cases exec_effect hi h
    case reset => exact absurd rfl hr
    case romGood => exact ⟨rfl, fun ⟨h1, h2, h3⟩ => ⟨h1, h2, fun k hk => ⟨(h3 k hk).1, hor (h3 k hk).2⟩⟩⟩
    case romDone => exact ⟨rfl, fun ⟨h1, h2, h3⟩ => ⟨h1, h2, fun k hk => ⟨hor (h3 k hk).1, (h3 k hk).2⟩⟩⟩
    case lcRsp => exact ⟨rfl, fun ⟨h1, _, h3⟩ => ⟨h1, rfl, h3⟩⟩
    case otpRsp => exact ⟨rfl, fun ⟨_, h2, h3⟩ => ⟨rfl, h2, h3⟩⟩
    all_goals exact ⟨rfl, id⟩

section
variable {state : Nat → State} {op : Nat → Option Instr} {c : Config}
  (hrun : Admitted state op) (h0 : State.construct c = .ok (state 0)) (hreset : ∀ n, op n ≠ some .reset)
  (hquiet : ∀ n, Undisturbed (state n))
include hrun hreset

theorem run_keeps_inputs (n : Nat) :
    (state (n + 1)).cfg = (state n).cfg ∧ (InputsLatched (state n) → InputsLatched (state (n + 1))) := by
  have hm := hrun.1 n
  cases ho : op n with
  | none =>
    rw [ho] at hm
    obtain ⟨ds, k, hm⟩ := hm
    rw [hm]
    exact ⟨rfl, id⟩
  | some i =>
    rw [ho] at hm
    obtain ⟨_, ds, k, hm⟩ := hm
    exact exec_keeps_inputs (s := { state n with deliveries := ds, freeCount := k })
      (fun hi => hreset n (hi ▸ ho)) hm

include h0 hquiet

theorem run_rises (n : Nat) : Rising (state n) ∧ (state n).cfg.wellFormed = true := by
  induction n with
  | zero =>
    unfold State.construct at h0
    split at h0
    · rename_i hc
      rw [← Except.ok.inj h0]
      exact ⟨⟨rfl, Nat.zero_le 9, .inl rfl⟩, hc⟩
    · cases h0
  | succ n ih =>
    refine ⟨?_, by rw [(run_keeps_inputs hrun hreset n).1]; exact ih.2⟩
    have hm := hrun.1 n
    cases ho : op n with
    | none =>
      rw [ho] at hm
      obtain ⟨ds, k, hm⟩ := hm
      rw [hm]
      exact ⟨ih.1.running, ih.1.before, ih.1.pending⟩
    | some i =>
      rw [ho] at hm
      obtain ⟨_, ds, k, hm⟩ := hm
      have hs : Rising { state n with deliveries := ds, freeCount := k } :=
        ⟨ih.1.running, ih.1.before, ih.1.pending⟩
      by_cases hi : i = .tick
      · subst hi
        exact (tick_rises hs (hquiet n) hm).1
      · exact (other_rises hi (fun hr => hreset n (hr ▸ ho)) hs hm).1

/-- Along the run the fast machine never moves back, and a tick moves it forward once every input is latched. -/
theorem run_forward (n : Nat) : (state n).fast.number ≤ (state (n + 1)).fast.number ∧
    (InputsLatched (state n) → (state n).fast ≠ .active → op n = some .tick →
      (state (n + 1)).fast.number = (state n).fast.number + 1) := by
  obtain ⟨hr, hw⟩ := run_rises hrun h0 hreset hquiet n
  have hm := hrun.1 n
  cases ho : op n with
  | none =>
    rw [ho] at hm
    obtain ⟨ds, k, hm⟩ := hm
    rw [hm]
    exact ⟨Nat.le_refl _, fun _ _ h => nomatch h⟩
  | some i =>
    rw [ho] at hm
    obtain ⟨_, ds, k, hm⟩ := hm
    have hs : Rising { state n with deliveries := ds, freeCount := k } := ⟨hr.running, hr.before, hr.pending⟩
    by_cases hi : i = .tick
    · subst hi
      rcases (tick_rises hs (hquiet n) hm).2 with hf | ⟨hf, hb⟩
      · exact ⟨hf ▸ Nat.le_succ _, fun _ _ _ => hf⟩
      · refine ⟨by rw [hf], fun hl ha _ => ?_⟩
        rcases hb with hb | hb
        · exact absurd hb (blocked_not_latched (wellFormed_facts hw).2.2.2.1 hl (hquiet n))
        · exact absurd hb ha
    · have hf := (other_rises hi (fun hr => hreset n (hr ▸ ho)) hs hm).2
      exact ⟨by rw [hf], fun _ _ ht => absurd (Option.some.inj ht) hi⟩

/-- R204, the half that rests on R67: in an admitted run of a constructed block without reset, escalation, request or
fetch hold, once every boot input is latched `Active` is reached. -/
theorem admitted_reaches_active (hin : ∃ n, InputsLatched (state n)) : ∃ n, (state n).fast = .active := by
  obtain ⟨N, hN⟩ := hin
  by_contra hna
  have hna : ∀ n, (state n).fast ≠ .active := fun n h => hna ⟨n, h⟩
  have hmono : ∀ n j, (state n).fast.number ≤ (state (n + j)).fast.number := by
    intro n j
    induction j with
    | zero => exact Nat.le_refl _
    | succ j ih => exact ih.trans (run_forward hrun h0 hreset hquiet (n + j)).1
  have hlat : ∀ j, InputsLatched (state (N + j)) := by
    intro j
    induction j with
    | zero => exact hN
    | succ j ih => exact (run_keeps_inputs hrun hreset (N + j)).2 ih
  have hen : ∀ m, N ≤ m → (state m).TickEnabled := by
    intro m hm
    obtain ⟨hr, hw⟩ := run_rises hrun h0 hreset hquiet m
    refine ⟨hr.running, hr.pending.elim id fun ⟨_, hb⟩ => ?_⟩
    have hl := hlat (m - N)
    rw [Nat.add_sub_cancel' hm] at hl
    exact hb.elim (fun hb => absurd hb (blocked_not_latched (wellFormed_facts hw).2.2.2.1 hl (hquiet m)))
      (fun hb => absurd hb (hna m))
  have hclimb : ∀ j, ∃ m, N ≤ m ∧ j ≤ (state m).fast.number := by
    intro j
    induction j with
    | zero => exact ⟨N, Nat.le_refl _, Nat.zero_le _⟩
    | succ j ih =>
      obtain ⟨m, hm, hj⟩ := ih
      obtain ⟨m', hm', ho⟩ := hrun.2.1 m fun k hk => hen k (hm.trans hk)
      have hl := hlat (m' - N)
      rw [Nat.add_sub_cancel' (hm.trans hm')] at hl
      have hf := (run_forward hrun h0 hreset hquiet m').2 hl (hna m') ho
      have hle := hmono m (m' - m)
      rw [Nat.add_sub_cancel' hm'] at hle
      exact ⟨m' + 1, by omega, by omega⟩
  obtain ⟨m, _, hm⟩ := hclimb 10
  have := (run_rises hrun h0 hreset hquiet m).1.before
  omega

end

end Sys2Proof.Machine
end

