-- ==== Sys2Proof/Laws/PerInstr.lean ====
section
/-! SUPPORT. The statement family `Fields`: what R84 gives the fields of each operation's word. One lemma for each
constructor. -/

namespace Sys2Proof.Laws.Fields

/-- The kind field of an operation's word (R84). -/
def kind : Instr → BitVec 3
  | .readIntrState => 0#3
  | .writeIntrState _ => 1#3
  | .readIntrEnable => 0#3
  | .writeIntrEnable _ => 1#3
  | .readIntrTest => 0#3
  | .writeIntrTest _ => 1#3
  | .readAlertTest => 0#3
  | .writeAlertTest _ => 1#3
  | .readCtrlCfgRegwen => 0#3
  | .writeCtrlCfgRegwen _ => 1#3
  | .readControl => 0#3
  | .writeControl _ => 1#3
  | .readCfgCdcSync => 0#3
  | .writeCfgCdcSync _ => 1#3
  | .readWakeupEnRegwen => 0#3
  | .writeWakeupEnRegwen _ => 1#3
  | .readWakeupEn => 0#3
  | .writeWakeupEn _ => 1#3
  | .readWakeStatus => 0#3
  | .writeWakeStatus _ => 1#3
  | .readResetEnRegwen => 0#3
  | .writeResetEnRegwen _ => 1#3
  | .readResetEn => 0#3
  | .writeResetEn _ => 1#3
  | .readResetStatus => 0#3
  | .writeResetStatus _ => 1#3
  | .readEscalateResetStatus => 0#3
  | .writeEscalateResetStatus _ => 1#3
  | .readWakeInfoCaptureDis => 0#3
  | .writeWakeInfoCaptureDis _ => 1#3
  | .readWakeInfo => 0#3
  | .writeWakeInfo _ => 1#3
  | .readFaultStatus => 0#3
  | .writeFaultStatus _ => 1#3
  | .readUnmapped _ => 0#3
  | .writeUnmapped _ _ => 1#3
  | .lineRomGood _ _ => 2#3
  | .lineRomDone _ _ => 2#3
  | .lineWakeup _ _ => 2#3
  | .lineRstReq _ _ => 2#3
  | .lineSwRstReq _ _ => 2#3
  | .lineLcRsp _ _ => 2#3
  | .lineOtpRsp _ _ => 2#3
  | .lineEscalate _ _ => 2#3
  | .lineHoldFetch _ _ => 2#3
  | .tick => 3#3
  | .timerExpire => 4#3
  | .reset => 5#3

/-- The word has its operation's kind, clear reserved bits, and a port number only if it delivers a line. -/
def Statement (i : Instr) : Prop :=
  kindField (encode i) = kind i ∧ reservedField (encode i) = 0#5 ∧
  (kind i ≠ 2#3 → portField (encode i) = 0#8)

/-- Any assembled word of a kind other than LINE, with port 0. -/
theorem of_assemble {i : Instr} {offset : BitVec 16} {data : Word}
    (h : encode i = assemble (kind i) 0#8 offset data) : Statement i := by
  simp [Statement, h]

theorem of_encodeLine {i : Instr} {p : Port} {index : BitVec 8} {level : Bool} (hk : kind i = 2#3)
    (h : encode i = encodeLine p index level) : Statement i := by
  simp [Statement, h, hk]

theorem readIntrState : Statement .readIntrState := of_assemble rfl

theorem writeIntrState (data : Word) : Statement (.writeIntrState data) := of_assemble rfl

theorem readIntrEnable : Statement .readIntrEnable := of_assemble rfl

theorem writeIntrEnable (data : Word) : Statement (.writeIntrEnable data) := of_assemble rfl

theorem readIntrTest : Statement .readIntrTest := of_assemble rfl

theorem writeIntrTest (data : Word) : Statement (.writeIntrTest data) := of_assemble rfl

theorem readAlertTest : Statement .readAlertTest := of_assemble rfl

theorem writeAlertTest (data : Word) : Statement (.writeAlertTest data) := of_assemble rfl

theorem readCtrlCfgRegwen : Statement .readCtrlCfgRegwen := of_assemble rfl

theorem writeCtrlCfgRegwen (data : Word) : Statement (.writeCtrlCfgRegwen data) := of_assemble rfl

theorem readControl : Statement .readControl := of_assemble rfl

theorem writeControl (data : Word) : Statement (.writeControl data) := of_assemble rfl

theorem readCfgCdcSync : Statement .readCfgCdcSync := of_assemble rfl

theorem writeCfgCdcSync (data : Word) : Statement (.writeCfgCdcSync data) := of_assemble rfl

theorem readWakeupEnRegwen : Statement .readWakeupEnRegwen := of_assemble rfl

theorem writeWakeupEnRegwen (data : Word) : Statement (.writeWakeupEnRegwen data) := of_assemble rfl

theorem readWakeupEn : Statement .readWakeupEn := of_assemble rfl

theorem writeWakeupEn (data : Word) : Statement (.writeWakeupEn data) := of_assemble rfl

theorem readWakeStatus : Statement .readWakeStatus := of_assemble rfl

theorem writeWakeStatus (data : Word) : Statement (.writeWakeStatus data) := of_assemble rfl

theorem readResetEnRegwen : Statement .readResetEnRegwen := of_assemble rfl

theorem writeResetEnRegwen (data : Word) : Statement (.writeResetEnRegwen data) := of_assemble rfl

theorem readResetEn : Statement .readResetEn := of_assemble rfl

theorem writeResetEn (data : Word) : Statement (.writeResetEn data) := of_assemble rfl

theorem readResetStatus : Statement .readResetStatus := of_assemble rfl

theorem writeResetStatus (data : Word) : Statement (.writeResetStatus data) := of_assemble rfl

theorem readEscalateResetStatus : Statement .readEscalateResetStatus := of_assemble rfl

theorem writeEscalateResetStatus (data : Word) : Statement (.writeEscalateResetStatus data) := of_assemble rfl

theorem readWakeInfoCaptureDis : Statement .readWakeInfoCaptureDis := of_assemble rfl

theorem writeWakeInfoCaptureDis (data : Word) : Statement (.writeWakeInfoCaptureDis data) := of_assemble rfl

theorem readWakeInfo : Statement .readWakeInfo := of_assemble rfl

theorem writeWakeInfo (data : Word) : Statement (.writeWakeInfo data) := of_assemble rfl

theorem readFaultStatus : Statement .readFaultStatus := of_assemble rfl

theorem writeFaultStatus (data : Word) : Statement (.writeFaultStatus data) := of_assemble rfl

theorem readUnmapped (offset : BitVec 16) : Statement (.readUnmapped offset) := of_assemble rfl

theorem writeUnmapped (offset : BitVec 16) (data : Word) : Statement (.writeUnmapped offset data) := of_assemble rfl

theorem lineRomGood (index : BitVec 8) (level : Bool) : Statement (.lineRomGood index level) := of_encodeLine rfl rfl

theorem lineRomDone (index : BitVec 8) (level : Bool) : Statement (.lineRomDone index level) := of_encodeLine rfl rfl

theorem lineWakeup (index : BitVec 8) (level : Bool) : Statement (.lineWakeup index level) := of_encodeLine rfl rfl

theorem lineRstReq (index : BitVec 8) (level : Bool) : Statement (.lineRstReq index level) := of_encodeLine rfl rfl

theorem lineSwRstReq (index : BitVec 8) (level : Bool) : Statement (.lineSwRstReq index level) := of_encodeLine rfl rfl

theorem lineLcRsp (index : BitVec 8) (level : Bool) : Statement (.lineLcRsp index level) := of_encodeLine rfl rfl

theorem lineOtpRsp (index : BitVec 8) (level : Bool) : Statement (.lineOtpRsp index level) := of_encodeLine rfl rfl

theorem lineEscalate (index : BitVec 8) (level : Bool) : Statement (.lineEscalate index level) := of_encodeLine rfl rfl

theorem lineHoldFetch (index : BitVec 8) (level : Bool) : Statement (.lineHoldFetch index level) := of_encodeLine rfl rfl

theorem tick : Statement .tick := of_assemble rfl

theorem timerExpire : Statement .timerExpire := of_assemble rfl

theorem reset : Statement .reset := of_assemble rfl

end Sys2Proof.Laws.Fields
end

