-- ==== Sys2Proof/Tests/Slice0.lean ====
section
/-! SUPPORT. The model's own tests. Expected results come from spec 95_test_vectors.md (V-…) or from the encoding of
30_encoding.md R84, worked out by hand. The last part shows, for each statement with hypotheses, a state and operands
that meet them. -/

namespace Sys2Proof.Tests

open Sys2Proof.Machine

/-! ## Helpers -/

/-- "Reset state S0" of file 95. -/
def s0 : State := State.reset

/-- S0 with the slow machine `Idle` and the fast machine in a state: where file 95's tick vectors start. -/
def inState (f : FastState) : State := { s0 with slow := .idle, fast := f }

/-- S0 with some register words. -/
def withRegs (u : RegFile → RegFile) : State := { s0 with regs := u s0.regs }

/-- S0 of another configuration. -/
def s0With (u : Config → Config) : State := { s0 with cfg := u s0.cfg }

def quiet (s : State) : State := { s with tickPending := false }

/-! ## Well-formedness: one ill-formed term for each check -/

theorem test_wellFormed_accepts : Config.testTA.wellFormed = true ∧
    (Instr.readUnmapped 0x44#16).wellFormed Config.testTA = true ∧
    (Instr.writeUnmapped 0x7C#16 5#32).wellFormed Config.testTA = true ∧
    Instr.tick.wellFormed Config.testTA = true := by decide

/-- R8, check by check: too many lines, a limit above 31, a mask that is not the lines', a missing cause, too many ROM
channels, too many wakeups, a CONTROL reset value outside its mask, a window that ends inside the registers, a window
that is not whole words. -/
theorem test_wellFormed_refuses_configurations :
    Config.wellFormed { Config.testTA with maxResetLines := 1 } = false ∧
    Config.wellFormed { Config.testTA with maxResetLines := 32 } = false ∧
    Config.wellFormed { Config.testTA with resetMask := 0x1#32 } = false ∧
    Config.wellFormed { Config.testTA with resetDispatch := [⟨1⟩] } = false ∧
    Config.wellFormed { Config.testTA with romCount := 9 } = false ∧
    Config.wellFormed { Config.testTA with wakeupCount := 31 } = false ∧
    Config.wellFormed { Config.testTA with controlReset := 0x182#32 } = false ∧
    Config.wellFormed { Config.testTA with mmioSize := 0x40 } = false ∧
    Config.wellFormed { Config.testTA with mmioSize := 0x82 } = false := by decide

/-- R61, R72, R73: an unmapped access at a misaligned offset, at a register's offset, outside the window. -/
theorem test_wellFormed_refuses_operations :
    (Instr.readUnmapped 0x46#16).wellFormed Config.testTA = false ∧
    (Instr.readUnmapped 0x40#16).wellFormed Config.testTA = false ∧
    (Instr.readUnmapped 0x80#16).wellFormed Config.testTA = false ∧
    (Instr.writeUnmapped 0x45#16 0#32).wellFormed Config.testTA = false ∧
    (Instr.writeUnmapped 0x00#16 0#32).wellFormed Config.testTA = false ∧
    (Instr.writeUnmapped 0x84#16 0#32).wellFormed Config.testTA = false := by decide

/-! ## Decoding: a word for every operation, written out from R84 and the register map of R80 -/

theorem test_decode_reads_low :
    decode Config.testTA 0x0000000000000000#64 = .ok .readIntrState ∧
    decode Config.testTA 0x0000000400000000#64 = .ok .readIntrEnable ∧
    decode Config.testTA 0x0000000800000000#64 = .ok .readIntrTest ∧
    decode Config.testTA 0x0000000C00000000#64 = .ok .readAlertTest ∧
    decode Config.testTA 0x0000001000000000#64 = .ok .readCtrlCfgRegwen ∧
    decode Config.testTA 0x0000001400000000#64 = .ok .readControl ∧
    decode Config.testTA 0x0000001800000000#64 = .ok .readCfgCdcSync ∧
    decode Config.testTA 0x0000001C00000000#64 = .ok .readWakeupEnRegwen ∧
    decode Config.testTA 0x0000002000000000#64 = .ok .readWakeupEn := by decide

theorem test_decode_reads_high :
    decode Config.testTA 0x0000002400000000#64 = .ok .readWakeStatus ∧
    decode Config.testTA 0x0000002800000000#64 = .ok .readResetEnRegwen ∧
    decode Config.testTA 0x0000002C00000000#64 = .ok .readResetEn ∧
    decode Config.testTA 0x0000003000000000#64 = .ok .readResetStatus ∧
    decode Config.testTA 0x0000003400000000#64 = .ok .readEscalateResetStatus ∧
    decode Config.testTA 0x0000003800000000#64 = .ok .readWakeInfoCaptureDis ∧
    decode Config.testTA 0x0000003C00000000#64 = .ok .readWakeInfo ∧
    decode Config.testTA 0x0000004000000000#64 = .ok .readFaultStatus ∧
    decode Config.testTA 0x0000004400000000#64 = .ok (.readUnmapped 0x44#16) := by decide

theorem test_decode_writes_low :
    decode Config.testTA 0x20000000FFFFFFFE#64 = .ok (.writeIntrState 0xFFFFFFFE#32) ∧
    decode Config.testTA 0x2000000400000001#64 = .ok (.writeIntrEnable 1#32) ∧
    decode Config.testTA 0x2000000800000001#64 = .ok (.writeIntrTest 1#32) ∧
    decode Config.testTA 0x2000000CFFFFFFFF#64 = .ok (.writeAlertTest 0xFFFFFFFF#32) ∧
    decode Config.testTA 0x2000001000000000#64 = .ok (.writeCtrlCfgRegwen 0#32) ∧
    decode Config.testTA 0x20000014FFFFFFFF#64 = .ok (.writeControl 0xFFFFFFFF#32) ∧
    decode Config.testTA 0x2000001800000001#64 = .ok (.writeCfgCdcSync 1#32) ∧
    decode Config.testTA 0x2000001C00000000#64 = .ok (.writeWakeupEnRegwen 0#32) ∧
    decode Config.testTA 0x200000200000003F#64 = .ok (.writeWakeupEn 0x3F#32) := by decide

theorem test_decode_writes_high :
    decode Config.testTA 0x2000002400000001#64 = .ok (.writeWakeStatus 1#32) ∧
    decode Config.testTA 0x2000002800000001#64 = .ok (.writeResetEnRegwen 1#32) ∧
    decode Config.testTA 0x2000002C00000001#64 = .ok (.writeResetEn 1#32) ∧
    decode Config.testTA 0x2000003000000003#64 = .ok (.writeResetStatus 3#32) ∧
    decode Config.testTA 0x2000003400000000#64 = .ok (.writeEscalateResetStatus 0#32) ∧
    decode Config.testTA 0x2000003800000003#64 = .ok (.writeWakeInfoCaptureDis 3#32) ∧
    decode Config.testTA 0x2000003CFFFFFFFF#64 = .ok (.writeWakeInfo 0xFFFFFFFF#32) ∧
    decode Config.testTA 0x2000004000000007#64 = .ok (.writeFaultStatus 7#32) ∧
    decode Config.testTA 0x2000007C00000005#64 = .ok (.writeUnmapped 0x7C#16 5#32) := by decide

theorem test_decode_lines :
    decode Config.testTA 0x4000000000000001#64 = .ok (.lineRomGood 0#8 true) ∧
    decode Config.testTA 0x4001000100000001#64 = .ok (.lineRomDone 1#8 true) ∧
    decode Config.testTA 0x4002000600000000#64 = .ok (.lineWakeup 6#8 false) ∧
    decode Config.testTA 0x4003000100000001#64 = .ok (.lineRstReq 1#8 true) ∧
    decode Config.testTA 0x4004000000000001#64 = .ok (.lineSwRstReq 0#8 true) ∧
    decode Config.testTA 0x4005000100000001#64 = .ok (.lineLcRsp 1#8 true) ∧
    decode Config.testTA 0x4006000000000001#64 = .ok (.lineOtpRsp 0#8 true) ∧
    decode Config.testTA 0x4007000000000001#64 = .ok (.lineEscalate 0#8 true) ∧
    decode Config.testTA 0x400800FF00000000#64 = .ok (.lineHoldFetch 0xFF#8 false) := by decide

theorem test_decode_nullary :
    decode Config.testTA 0x6000000000000000#64 = .ok .tick ∧
    decode Config.testTA 0x8000000000000000#64 = .ok .timerExpire ∧
    decode Config.testTA 0xA000000000000000#64 = .ok .reset := by decide

/-- V-B22, V-L21, R85, R86: reserved kinds, reserved and stray bits, misaligned, outside the window, no such port. -/
theorem test_decode_refuses :
    decode Config.testTA 0xC000000000000000#64 = .error .reservedKind ∧
    decode Config.testTA 0xE000000000000000#64 = .error .reservedKind ∧
    decode Config.testTA 0x0100000000000000#64 = .error .reservedBits ∧
    decode Config.testTA 0x0000000000000001#64 = .error .reservedBits ∧
    decode Config.testTA 0x2001000000000000#64 = .error .reservedBits ∧
    decode Config.testTA 0x4000010000000001#64 = .error .reservedBits ∧
    decode Config.testTA 0x4000000000000003#64 = .error .reservedBits ∧
    decode Config.testTA 0x6000000400000000#64 = .error .reservedBits ∧
    decode Config.testTA 0x0000000200000000#64 = .error .misaligned ∧
    decode Config.testTA 0x0000008000000000#64 = .error .outsideWindow ∧
    decode Config.testTA 0x4009000000000001#64 = .error .noSuchPort := by decide

/-- The table's numbering: 64 bits, bit 0 the least significant. -/
theorem test_decodeTableWord :
    decodeTableWord 64 0x4003000000000001 = some (.lineRstReq 0#8 true) ∧
    decodeTableWord 64 0xC000000000000000 = none := by decide

/-- The delivered word runs first; with nothing delivered the first tick after reset does (V-F1). -/
theorem test_step_runs_the_word :
    step (State.reset.withFetchWord 64 0x2000002C00000001) = exec (.writeResetEn 1#32) State.reset ∧
    step State.reset = exec .tick State.reset := ⟨rfl, rfl⟩

/-! ## Bus accesses (V-B…) -/

/-- V-B1, V-B2. -/
theorem test_read_control :
    exec .readControl s0 = .next { s0 with results := [⟨0x180#32, true⟩] } ∧
    exec .readCtrlCfgRegwen s0 = .next { s0 with results := [⟨1#32, true⟩] } := ⟨rfl, rfl⟩

/-- V-B3, V-B8. -/
theorem test_write_intr_enable :
    exec (.writeIntrEnable 0xFFFFFFFF#32) s0 = .next (withRegs fun r => { r with intrEnable := 1#32 }) ∧
    exec (.writeIntrEnable 1#32) (withRegs fun r => { r with intrState := 1#32 }) =
      .next { withRegs fun r => { r with intrState := 1#32, intrEnable := 1#32 } with
        out := { s0.out with wakeIrq := true }, history := [.line .wakeIrq true] } := ⟨rfl, rfl⟩

/-- Where V-B4 to V-B6 start. -/
def interrupting : State :=
  { withRegs fun r => { r with intrState := 1#32, intrEnable := 1#32 } with
    out := { s0.out with wakeIrq := true } }

/-- V-B4, V-B5, V-B6. -/
theorem test_write_intr_state :
    exec (.writeIntrState 0#32) interrupting = .next interrupting ∧
    exec (.writeIntrState 0xFFFFFFFE#32) interrupting = .next interrupting ∧
    exec (.writeIntrState 1#32) interrupting =
      .next { withRegs fun r => { r with intrEnable := 1#32 } with history := [.line .wakeIrq false] } :=
  ⟨rfl, rfl, rfl⟩

/-- V-B7, V-B9. -/
theorem test_intr_test :
    exec (.writeIntrTest 1#32) s0 = .next (withRegs fun r => { r with intrState := 1#32 }) ∧
    exec .readIntrTest s0 = .next { s0 with
      history := [.diag (.writeOnlyRead 0x08#16)], results := [⟨0#32, true⟩] } := ⟨rfl, rfl⟩

/-- V-B10, V-B11, V-B12. -/
theorem test_write_alert_test :
    exec (.writeAlertTest 2#32) s0 = .next s0 ∧
    exec (.writeAlertTest 1#32) s0 =
      .next { s0 with out := { s0.out with alert := true }, history := [.line .alert true] } ∧
    exec (.writeAlertTest 1#32) { s0 with out := { s0.out with alert := true } } =
      .next { s0 with out := { s0.out with alert := true } } := ⟨rfl, rfl, rfl⟩

/-- V-B13, V-B19. -/
theorem test_write_read_only :
    exec (.writeCtrlCfgRegwen 0#32) s0 =
      .next { s0 with history := [.diag (.readOnlyWrite 0x10#16 0#32)] } ∧
    exec (.writeResetStatus 3#32) s0 =
      .next { s0 with history := [.diag (.readOnlyWrite 0x30#16 3#32)] } := ⟨rfl, rfl⟩

/-- V-B14. -/
theorem test_write_control :
    exec (.writeControl 0xFFFFFFFF#32) s0 = .next (withRegs fun r => { r with control := 0x1F1#32 }) := rfl

/-- V-B15 and V-B16, the lock register's half. -/
theorem test_write_wakeup_en_regwen :
    exec (.writeWakeupEnRegwen 0#32) s0 = .next (withRegs fun r => { r with wakeupEnRegwen := 0#32 }) ∧
    exec (.writeWakeupEnRegwen 1#32) (withRegs fun r => { r with wakeupEnRegwen := 0#32 }) =
      .next (withRegs fun r => { r with wakeupEnRegwen := 0#32 }) := ⟨rfl, rfl⟩

/-- V-B15's second half, V-B17. -/
theorem test_write_wakeup_en :
    exec (.writeWakeupEn 0x3F#32) (withRegs fun r => { r with wakeupEnRegwen := 0#32 }) =
      .next { withRegs fun r => { r with wakeupEnRegwen := 0#32 } with
        history := [.diag (.lockedWrite 0x20#16 0x3F#32)] } ∧
    exec (.writeWakeupEn 0xFFFFFFFF#32) s0 = .next (withRegs fun r => { r with wakeupEn := 0x3F#32 }) :=
  ⟨rfl, rfl⟩

/-- V-B18. -/
theorem test_read_reset_status :
    exec .readResetStatus (withRegs fun r => { r with resetStatus := 0x4#32 }) =
      .next { withRegs fun r => { r with resetStatus := 0x4#32 } with results := [⟨0#32, true⟩] } ∧
    exec .readResetStatus (withRegs fun r => { r with resetStatus := 0x2#32 }) =
      .next { withRegs fun r => { r with resetStatus := 0x2#32 } with results := [⟨0x2#32, true⟩] } :=
  ⟨rfl, rfl⟩

/-- V-B20, V-B21. -/
theorem test_unmapped :
    exec (.readUnmapped 0x44#16) s0 = .next { s0 with
      history := [.diag (.badOffsetRead 0x44#16)], results := [⟨0#32, false⟩] } ∧
    exec (.writeUnmapped 0x7C#16 5#32) s0 =
      .next { s0 with history := [.diag (.badOffsetWrite 0x7C#16 5#32)] } := ⟨rfl, rfl⟩

/-- V-B23, V-B24. -/
theorem test_wake_info :
    exec (.writeWakeInfo 0xFFFFFFFF#32) s0 = .next s0 ∧
    exec (.writeWakeInfoCaptureDis 3#32) s0 =
      .next (withRegs fun r => { r with wakeInfoCaptureDis := 1#32 }) := ⟨rfl, rfl⟩

/-- V-B26: no register write arms a tick; program P6 step 10. -/
theorem test_write_reset_en :
    exec (.writeResetEn 3#32) (quiet (inState .otpInit)) = .next { quiet (inState .otpInit) with
      regs := { s0.regs with resetEn := 3#32 } } ∧
    exec (.writeResetEn 0#32) (withRegs fun r => { r with resetEn := 3#32, resetEnRegwen := 0#32 }) =
      .next { withRegs fun r => { r with resetEn := 3#32, resetEnRegwen := 0#32 } with
        history := [.diag (.lockedWrite 0x2C#16 0#32)] } := ⟨rfl, rfl⟩

/-! ## Line deliveries (V-L…) -/

/-- V-L1, V-L2. -/
theorem test_line_rom_good :
    exec (.lineRomGood 0#8 true) (quiet s0) =
      .next { s0 with latch := { s0.latch with romGood := 1#8 } } ∧
    exec (.lineRomGood 0#8 false) { quiet s0 with latch := { s0.latch with romGood := 1#8 } } =
      .next { quiet s0 with latch := { s0.latch with romGood := 1#8 } } := ⟨rfl, rfl⟩

/-- V-L3. -/
theorem test_line_rom_done : exec (.lineRomDone 1#8 true) s0 =
    .next { s0 with history := [.diag (.indexOutOfRange .romDone 1#8)] } := rfl

/-- V-L4, V-L5. -/
theorem test_line_wakeup :
    exec (.lineWakeup 5#8 true) (quiet s0) =
      .next { quiet s0 with history := [.diag (.wakeupIgnored 5#8)] } ∧
    exec (.lineWakeup 6#8 true) s0 =
      .next { s0 with history := [.diag (.indexOutOfRange .wakeup 6#8)] } := ⟨rfl, rfl⟩

/-- S0 with hardware reset line 0 enabled. -/
def lineEnabled : State := withRegs fun r => { r with resetEn := 1#32 }

/-- V-L6. -/
theorem test_line_rst_req_accepts : exec (.lineRstReq 0#8 true) (quiet lineEnabled) = .next { lineEnabled with
    regs := { lineEnabled.regs with resetStatus := 1#32 }
    rst := ⟨.fast, ⟨1⟩⟩
    latch := { s0.latch with hwResetRequested := true } } := rfl

/-- V-L7, V-L8, V-L9, V-L10, V-L13. -/
theorem test_line_rst_req_checks :
    exec (.lineRstReq 1#8 true) lineEnabled =
      .next { lineEnabled with history := [.diag (.resetLineDisabled 1#8)] } ∧
    exec (.lineRstReq 2#8 true) s0 = .next { s0 with history := [.diag (.resetLineUnmapped 2#8)] } ∧
    exec (.lineRstReq 2#8 false) s0 = .next { s0 with history := [.diag (.resetLineUnmapped 2#8)] } ∧
    exec (.lineRstReq 0#8 false) lineEnabled = .next lineEnabled ∧
    exec (.lineRstReq 1#8 true) (withRegs fun r => { r with resetStatus := 1#32 }) =
      .next { withRegs fun r => { r with resetStatus := 1#32 } with
        history := [.diag (.resetOngoing .rstReq 1#8)] } := ⟨rfl, rfl, rfl, rfl, rfl⟩

/-- V-L11, V-L12. -/
theorem test_line_sw_rst_req :
    exec (.lineSwRstReq 0#8 true) (quiet s0) = .next { s0 with
      regs := { s0.regs with resetStatus := 4#32 }
      rst := ⟨.fast, ⟨3⟩⟩
      latch := { s0.latch with swResetRequested := true } } ∧
    exec (.lineSwRstReq 0#8 true) (withRegs fun r => { r with resetStatus := 1#32 }) =
      .next { withRegs fun r => { r with resetStatus := 1#32 } with
        history := [.diag (.resetOngoing .swRstReq 0#8)] } := ⟨rfl, rfl⟩

/-- V-L14, V-L15. -/
theorem test_line_escalate :
    exec (.lineEscalate 0#8 true) (quiet s0) = .next { s0 with
      regs := { s0.regs with escalateResetStatus := 1#32 }
      latch := { s0.latch with escalate := true } } ∧
    exec (.lineEscalate 0#8 false) { s0 with latch := { s0.latch with escalate := true } } =
      .next { s0 with latch := { s0.latch with escalate := true } } := ⟨rfl, rfl⟩

/-- V-L16, V-L20: a response is latched in any state and arms the one tick. -/
theorem test_line_responses :
    exec (.lineOtpRsp 0#8 true) (quiet (inState .resetWait)) =
      .next { inState .resetWait with latch := { s0.latch with otpDone := true } } ∧
    exec (.lineLcRsp 0#8 true) s0 = .next { s0 with latch := { s0.latch with lcDone := true } } := ⟨rfl, rfl⟩

/-- V-L19. -/
theorem test_line_lc_rsp_index : exec (.lineLcRsp 1#8 true) s0 =
    .next { s0 with history := [.diag (.indexOutOfRange .lcRsp 1#8)] } := rfl

/-- V-L17, V-L18. -/
theorem test_line_hold_fetch :
    exec (.lineHoldFetch 0#8 true) s0 = .next { s0 with history := [.diag (.fetchCtrlDisabled true)] } ∧
    exec (.lineHoldFetch 0#8 false)
        { quiet (s0With fun c => { c with fetchCtrl := true }) with
          latch := { s0.latch with holdFetch := true } } =
      .next (s0With fun c => { c with fetchCtrl := true }) := ⟨rfl, rfl⟩

/-! ## The tick (V-F…) -/

/-- V-F1 to V-F7: up to the strap state. -/
theorem test_tick_first_states :
    exec .tick s0 = .next (inState .enableClocks) ∧
    exec .tick (inState .enableClocks) = .next (inState .releaseLcReset) ∧
    exec .tick (inState .releaseLcReset) = .next { inState .otpInit with
      out := { s0.out with otpReq := true }, history := [.line .otpReq true] } ∧
    exec .tick (inState .otpInit) = .next (quiet (inState .otpInit)) ∧
    exec .tick { inState .otpInit with
        latch := { s0.latch with otpDone := true }, out := { s0.out with otpReq := true } } =
      .next { inState .lcInit with
        latch := { s0.latch with otpDone := true }
        out := { s0.out with lcReq := true }
        history := [.line .otpReq false, .line .lcReq true] } ∧
    exec .tick { inState .lcInit with
        latch := { s0.latch with lcDone := true }, out := { s0.out with lcReq := true } } =
      .next { inState .ackPwrUp with
        latch := { s0.latch with lcDone := true }, history := [.line .lcReq false] } ∧
    exec .tick (inState .strap) = .next { inState .romCheckDone with
      out := { s0.out with strap := true }, history := [.line .strap true] } :=
  ⟨rfl, rfl, rfl, rfl, rfl, rfl, rfl⟩

/-- V-F8 to V-F20, but for `rst.cause` after V-F13, which the spec leaves open. -/
theorem test_tick_later_states :
    exec .tick { inState .romCheckDone with
        cfg := { Config.testTA with romCount := 2 }, latch := { s0.latch with romDone := 1#8 } } =
      .next { quiet (inState .romCheckDone) with
        cfg := { Config.testTA with romCount := 2 }, latch := { s0.latch with romDone := 1#8 } } ∧
    exec .tick (inState .romCheckGood) = .next (quiet (inState .romCheckGood)) ∧
    exec .tick { inState .romCheckGood with
        cfg := { Config.testTA with fetchCtrl := true }
        latch := { s0.latch with romGood := 1#8, holdFetch := true } } =
      .next { quiet (inState .romCheckGood) with
        cfg := { Config.testTA with fetchCtrl := true }
        latch := { s0.latch with romGood := 1#8, holdFetch := true } } ∧
    exec .tick (inState .active) = .next { quiet (inState .active) with
      out := { s0.out with cpuEn := true }, history := [.line .cpuEn true] } ∧
    exec .tick { inState .active with
        regs := { s0.regs with resetStatus := 4#32 }, out := { s0.out with cpuEn := true } } =
      .next { inState .disClocks with
        regs := { s0.regs with resetStatus := 4#32 }, history := [.line .cpuEn false] } ∧
    exec .tick { inState .resetPrep with rst := ⟨.fast, ⟨2⟩⟩ } = .next { inState .resetWait with
      rst := ⟨.none, ⟨Config.freeCauseToken 0⟩⟩
      freeCount := 1
      history := [.resetReq .fast ⟨2⟩] } ∧
    exec .tick { inState .resetWait with latch := { s0.latch with escalate := true } } =
      .next { inState .reqPwrDn with latch := { s0.latch with escalate := true } } ∧
    exec .tick { s0 with latch := { s0.latch with escalate := true } } =
      .next { inState .reqPwrDn with latch := { s0.latch with escalate := true } } ∧
    exec .tick { inState .active with
        latch := { s0.latch with escalate := true }, out := { s0.out with cpuEn := true } } =
      .next { inState .reqPwrDn with
        latch := { s0.latch with escalate := true }, out := { s0.out with cpuEn := true } } ∧
    exec .tick { inState .reqPwrDn with latch := { s0.latch with escalate := true } } =
      .next { quiet (inState .reqPwrDn) with latch := { s0.latch with escalate := true } } ∧
    exec .tick (inState .fallThrough) =
      .next { inState .resetPrep with history := [.diag (.unimplementedMode .fallThrough)] } ∧
    exec .tick (inState .resetWait) = .next (quiet (inState .resetWait)) ∧
    exec .tick (inState .invalid) = .fault .unreachableFastState :=
  ⟨rfl, rfl, rfl, rfl, rfl, rfl, rfl, rfl, rfl, rfl, rfl, rfl, rfl⟩

/-! ## The settle timer and component reset (V-T…, V-X…) -/

/-- SYNC set and the timer armed. -/
def settling : State := { withRegs fun r => { r with cfgCdcSync := 1#32 } with cdcTimerArmed := true }

/-- V-T1, V-T2, V-T4. -/
theorem test_write_cfg_cdc_sync :
    exec (.writeCfgCdcSync 1#32) s0 = .next settling ∧
    exec (.writeCfgCdcSync 0#32) settling = .next settling ∧
    exec (.writeCfgCdcSync 1#32) settling = .next settling := ⟨rfl, rfl, rfl⟩

/-- V-T3, V-T5. -/
theorem test_timer_expire :
    exec .timerExpire settling = .next s0 ∧ exec .timerExpire s0 = .refused .timerNotArmed := ⟨rfl, rfl⟩

/-- The state V-X1 starts from. -/
def running1 : State := { inState .active with
  regs := { s0.regs with resetEn := 3#32 }
  latch := ⟨true, true, true, true, true, true, 0xFF#8, 0xFF#8⟩
  out := { s0.out with cpuEn := true, alert := true } }

/-- V-X1, V-X5. `rst.cause` is unspecified after a reset. -/
theorem test_reset :
    exec .reset running1 = .next { s0 with
      rst := ⟨.none, ⟨Config.freeCauseToken 0⟩⟩
      freeCount := 1
      history := [.line .alert false, .line .cpuEn false] } ∧
    exec .reset { s0 with halted := true } = .refused .halted := ⟨rfl, rfl⟩

/-- V-X2, V-X3, V-X4: the timer, the request, the locks. -/
theorem test_reset_discards :
    exec .reset { settling with
        regs := { settling.regs with resetStatus := 1#32, resetEn := 1#32, resetEnRegwen := 0#32 }
        rst := ⟨.fast, ⟨1⟩⟩
        fast := .disClocks } =
      .next { s0 with rst := ⟨.none, ⟨Config.freeCauseToken 0⟩⟩, freeCount := 1 } := rfl

/-! ## Witnesses: every statement with hypotheses has a state and operands that meet them -/

/-- S0 of the largest configuration R8 admits of ROM channels, wakeups and reset lines, with fetch control. -/
def s0Large : State := State.afterReset { Config.testTA with
  romCount := 8
  wakeupCount := 30
  resetCount := 31
  resetMask := 0x7FFFFFFF#32
  resetDispatch := List.replicate 31 ⟨1⟩
  fetchCtrl := true
  main := true }

theorem test_witness_ready : State.reset.Ready ∧ s0Large.Ready ∧ interrupting.Ready ∧ settling.Ready ∧
    (withRegs fun r => { r with resetStatus := 0x4#32 }).Ready := by decide

/-- DecodeUndoesEncode and EncodeUndoesDecode. -/
theorem test_witness_encoding : Config.testTA.wellFormed = true ∧
    (Instr.readUnmapped 0x44#16).wellFormed Config.testTA = true ∧
    (Instr.writeUnmapped 0x7C#16 0xFFFFFFFF#32).wellFormed Config.testTA = true ∧
    decode Config.testTA 0x4008000000000001#64 = .ok (.lineHoldFetch 0#8 true) := by decide

/-- StepRunsTheDeliveredOperation: a word that decodes, a word that does not. -/
theorem test_witness_delivery :
    (s0.withDelivery 0x6000000000000000#64).deliveries = [0x6000000000000000#64] ∧
    decode s0.cfg 0x6000000000000000#64 = .ok .tick ∧
    decode s0.cfg 0xC000000000000000#64 = .error .reservedKind := by decide

/-- OwnAgentsMoveWhenNothingIsDelivered: the tick alone, the timer alone, both, neither. -/
theorem test_witness_own_agents :
    (s0.deliveries = [] ∧ s0.tickPending = true ∧ s0.cdcTimerArmed = false) ∧
    ((quiet settling).deliveries = [] ∧ (quiet settling).tickPending = false ∧
      (quiet settling).cdcTimerArmed = true) ∧
    (settling.deliveries = [] ∧ settling.tickPending = true ∧ settling.cdcTimerArmed = true) ∧
    ((quiet s0).deliveries = [] ∧ (quiet s0).tickPending = false ∧ (quiet s0).cdcTimerArmed = false ∧
      (quiet s0).Ready) := by decide

/-- NoStepWhenHaltedOrIllFormed: both clauses. -/
theorem test_witness_no_step : ({ s0 with halted := true } : State).halted = true ∧
    (s0With fun c => { c with romCount := 9 }).halted = false ∧
    (s0With fun c => { c with romCount := 9 }).cfg.wellFormed = false := by decide

/-- The reset state meets the invariant (StepKeepsTheInvariant, NoFaultUnderTheInvariant, ReadsReturnTheStoredWord). -/
theorem test_reset_inv : BlockInv State.reset where
  configured := by decide
  regsLegal r _ := by cases r <;> decide
  oneRequest := .inl rfl
  irqFollows := rfl
  controlOpen := rfl
  neverSet := ⟨rfl, rfl, rfl⟩
  slowReached := .inl rfl
  fastReached := by decide
  slowFirst _ := rfl
  domainNotSlow := by decide
  pendingInFlight _ := rfl
  escalateShown := rfl
  powerDownEscalated h := nomatch h
  romChannels k _ := by simp [State.reset, State.afterReset, EventLatch.clear]
  holdNeedsControl h := nomatch h
  syncPulse := rfl
  haltedMain h := nomatch h

/-- A request pending on line 1, the timer armed, an interrupt raised, a channel done and good, in `Active`. -/
def busy : State := { inState .active with
  regs := { s0.regs with
    resetEn := 2#32, resetStatus := 2#32, intrState := 1#32, intrEnable := 1#32, cfgCdcSync := 1#32 }
  latch := { s0.latch with hwResetRequested := true, otpDone := true, lcDone := true, romGood := 1#8, romDone := 1#8 }
  rst := ⟨.fast, ⟨2⟩⟩
  cdcTimerArmed := true
  out := { s0.out with wakeIrq := true, cpuEn := true } }

/-- So does a state far from reset. -/
theorem test_busy_inv : BlockInv busy where
  configured := by decide
  regsLegal r _ := by cases r <;> decide
  oneRequest := .inr ⟨1, by decide, rfl⟩
  irqFollows := rfl
  controlOpen := rfl
  neverSet := ⟨rfl, rfl, rfl⟩
  slowReached := .inr rfl
  fastReached := by decide
  slowFirst h := nomatch h
  domainNotSlow := by decide
  pendingInFlight h := absurd h (by decide)
  escalateShown := rfl
  powerDownEscalated h := nomatch h
  romChannels k hk := by
    have hk : 1 ≤ k := hk
    have h1 : (1#8).getLsbD k = false := by simp [BitVec.getLsbD_one]; omega
    exact ⟨h1, h1⟩
  holdNeedsControl h := nomatch h
  syncPulse := rfl
  haltedMain h := nomatch h

/-- StepKeepsTheInvariant, StepKeepsBootEvidence and StepKeepsLineDiscipline: a step is taken from states that meet the
premises, at reset and in `Active` with everything latched. -/
theorem test_witness_step : (∃ t, step State.reset = .next t) ∧
    BootEvidence State.reset ∧ LineDiscipline State.reset ∧
    (∃ t, step (busy.withDelivery 0x6000000000000000#64) = .next t) ∧
    BootEvidence (busy.withDelivery 0x6000000000000000#64) ∧
    LineDiscipline (busy.withDelivery 0x6000000000000000#64) := by
  have hk : ∀ k, k < 1 → (1#8).getLsbD k = true := by decide
  refine ⟨⟨_, rfl⟩, ⟨nofun, nofun, nofun, nofun⟩, ⟨nofun, nofun, nofun, nofun⟩, ⟨_, rfl⟩,
    ⟨fun _ _ => rfl, fun _ _ => rfl, fun _ _ => hk, fun _ _ => hk⟩, ⟨nofun, nofun, nofun, fun _ => .inl rfl⟩⟩

/-- InterruptStateAndEnableWrites and InterruptTestWrite: the words and levels of V-B6, V-B8 and V-B7. -/
theorem test_witness_interrupt_writes :
    (0#32 = interrupting.regs.intrState &&& ~~~(1#32 &&& 1#32) ∧
      false = (0#32 &&& interrupting.regs.intrEnable != 0#32)) ∧
    (1#32 = 0xFFFFFFFF#32 &&& 1#32 ∧ true = (interrupting.regs.intrState &&& 1#32 != 0#32)) ∧
    (1#32 = s0.regs.intrState ||| (1#32 &&& 1#32) ∧ false = (1#32 &&& s0.regs.intrEnable != 0#32)) := by decide

/-- AlertTestWrite and CdcSyncWriteArmsTheTimer: bit 0 of the word, set and clear. -/
theorem test_witness_bit_zero :
    (0xFFFFFFFF#32).getLsbD 0 = true ∧ (0xFFFFFFFE#32).getLsbD 0 = false := by decide

/-- Words that agree on 32 bits, one of them masked, agree on all. -/
theorem masked_bits {v d : Word} {p : Nat → Bool}
    (h : ∀ k, k < 32 → v.getLsbD k = (p k && d.getLsbD k)) (k : Nat) : v.getLsbD k = (p k && d.getLsbD k) := by
  by_cases hk : k < 32
  · exact h k hk
  · simp [BitVec.getLsbD_of_ge _ k (Nat.le_of_not_lt hk)]

/-- WakeupEnableWriteIsGated: open, with the masked word of V-B17; locked (V-B15). -/
theorem test_witness_wakeup_gate :
    (s0.Ready ∧ s0.regs.wakeupEnRegwen.getLsbD 0 = true ∧
      ∀ k, (0x3F#32).getLsbD k = (decide (k < s0.cfg.wakeupCount) && (0xFFFFFFFF#32).getLsbD k)) ∧
    ((withRegs fun r => { r with wakeupEnRegwen := 0#32 }).Ready ∧
      (withRegs fun r => { r with wakeupEnRegwen := 0#32 }).regs.wakeupEnRegwen.getLsbD 0 = false) :=
  ⟨⟨by decide, rfl, masked_bits (by decide)⟩, by decide⟩

/-- ResetEnableWriteIsGated: open and locked, with the masked word of program P6. -/
theorem test_witness_reset_gate :
    (s0.Ready ∧ s0.regs.resetEnRegwen.getLsbD 0 = true ∧
      ∀ k, (0x3#32).getLsbD k = (decide (k < s0.cfg.resetCount) && (0xFFFFFFFF#32).getLsbD k)) ∧
    ((withRegs fun r => { r with resetEnRegwen := 0#32 }).Ready ∧
      (withRegs fun r => { r with resetEnRegwen := 0#32 }).regs.resetEnRegwen.getLsbD 0 = false) :=
  ⟨⟨by decide, rfl, masked_bits (by decide)⟩, by decide⟩

/-- ControlWriteIsGatedAndUnread: open, and locked, which no run reaches. -/
theorem test_witness_control_gate :
    (s0.Ready ∧ s0.regs.ctrlCfgRegwen.getLsbD 0 = true) ∧
    ((withRegs fun r => { r with ctrlCfgRegwen := 0#32 }).Ready ∧
      (withRegs fun r => { r with ctrlCfgRegwen := 0#32 }).regs.ctrlCfgRegwen.getLsbD 0 = false) := by decide

/-- WakeInfoWriteClearsBits: the stored word is 0; and, in a state no run reaches, the last bit of TA's eight and the
first one past it. -/
theorem test_witness_wake_info :
    (s0.Ready ∧ ∀ k, (0#32).getLsbD k =
      (s0.regs.wakeInfo.getLsbD k && !(decide (k < s0.cfg.wakeupCount + 2) && (1#32).getLsbD k))) ∧
    ((withRegs fun r => { r with wakeInfo := 0x180#32 }).Ready ∧ ∀ k, (0x100#32).getLsbD k =
      ((withRegs fun r => { r with wakeInfo := 0x180#32 }).regs.wakeInfo.getLsbD k &&
        !(decide (k < s0.cfg.wakeupCount + 2) && (0xFFFFFFFF#32).getLsbD k))) := by
  refine ⟨⟨by decide, fun k => ?_⟩, by decide, fun k => ?_⟩
  · rw [Bool.and_comm]
    exact masked_bits (p := fun k => !(decide (k < 8) && (1#32).getLsbD k)) (d := 0#32) (by decide) k
  · rw [Bool.and_comm]
    exact masked_bits (p := fun k => !(decide (k < 8) && (0xFFFFFFFF#32).getLsbD k)) (d := 0x180#32)
      (by decide) k

/-- Operations that ControlWriteIsGatedAndUnread and its kin name. -/
theorem test_witness_unread : Instr.tick ≠ .readControl ∧ (∀ data, Instr.tick ≠ .writeControl data) ∧
    Instr.tick ≠ .readWakeupEn ∧ (∀ data, Instr.tick ≠ .writeWakeupEn data) ∧
    Instr.tick ≠ .readWakeInfoCaptureDis ∧ (∀ data, Instr.tick ≠ .writeWakeInfoCaptureDis data) ∧
    Instr.tick ≠ .reset := ⟨nofun, nofun, nofun, nofun, nofun, nofun, nofun⟩

/-- RomLinesLatchTheirChannel: channel 0 of one, channel 7 of eight. -/
theorem test_witness_rom_lines :
    ((0#8).toNat < s0.cfg.romCount ∧
      ∀ k, k < 8 → (1#8).getLsbD k = (s0.latch.romGood.getLsbD k || decide (k = (0#8).toNat))) ∧
    ((7#8).toNat < s0Large.cfg.romCount ∧
      ∀ k, k < 8 → (0x80#8).getLsbD k = (s0Large.latch.romDone.getLsbD k || decide (k = (7#8).toNat))) := by
  decide

/-- WakeupLineIsDiagnosticOnly and OutOfRangeIndexIsReported: the last line and the first index past it, each port. -/
theorem test_witness_line_ranges :
    (5#8).toNat < s0.cfg.wakeupCount ∧ s0.cfg.wakeupCount ≤ (6#8).toNat ∧
    (29#8).toNat < s0Large.cfg.wakeupCount ∧ s0Large.cfg.wakeupCount ≤ (30#8).toNat ∧
    s0.cfg.romCount ≤ (1#8).toNat ∧ s0Large.cfg.romCount ≤ (8#8).toNat ∧ 1#8 ≠ 0#8 ∧ 0xFF#8 ≠ 0#8 := by decide

/-- HardwareResetRequest: unmapped, low, in flight, disabled, accepted, the last at the first and the last line. -/
theorem test_witness_hw_reset :
    s0.cfg.resetCount ≤ (2#8).toNat ∧ (1#8).toNat < s0.cfg.resetCount ∧
    ((1#8).toNat < busy.cfg.resetCount ∧ busy.regs.resetStatus ≠ 0#32) ∧
    (s0.regs.resetStatus = 0#32 ∧ s0.regs.resetEn.getLsbD (1#8).toNat = false) ∧
    (lineEnabled.Ready ∧ (0#8).toNat < lineEnabled.cfg.resetCount ∧ lineEnabled.regs.resetStatus = 0#32 ∧
      lineEnabled.regs.resetEn.getLsbD (0#8).toNat = true) ∧
    ((30#8).toNat < s0Large.cfg.resetCount ∧ s0Large.regs.resetStatus = 0#32 ∧
      (0x40000000#32).getLsbD (30#8).toNat = true) := by decide

/-- SoftwareResetRequest: in flight, and not. -/
theorem test_witness_sw_reset : (busy.Ready ∧ busy.regs.resetStatus ≠ 0#32) ∧
    (s0.Ready ∧ s0.regs.resetStatus = 0#32) := by decide

/-- FetchHoldFollowsTheLevel: fetch control on, and off. -/
theorem test_witness_fetch_hold : s0Large.cfg.fetchCtrl = true ∧ s0.cfg.fetchCtrl = false := by decide

/-- TickNeedsAPendingTick: none pending, and one. -/
theorem test_witness_tick_pending : ((quiet s0).Ready ∧ (quiet s0).tickPending = false) ∧
    (s0.Ready ∧ s0.tickPending = true) := by decide

/-- UnconditionalStatesAdvance, first clause: the first tick after reset, and a later one in `LowPower`. -/
theorem test_witness_low_power :
    (s0.tickPending = true ∧ s0.slow = .reset ∧ s0.latch.escalate = false ∧ s0.fast = .lowPower) ∧
    ((inState .lowPower).slow = .idle ∧ (inState .lowPower).fast = .lowPower) := by decide

/-- Every statement about a tick that reaches the table: such a state exists whatever the fast state is. -/
theorem test_witness_table (f : FastState) : (inState f).TableTickDue ∧ (inState f).fast = f := by
  cases f <;> decide

/-- HandshakeStatesWaitForTheirResponse: with the response and without. -/
theorem test_witness_handshakes :
    busy.TableTickDue ∧ ({ busy with fast := .otpInit } : State).latch.otpDone = true ∧
    ({ busy with fast := .lcInit } : State).latch.lcDone = true ∧
    (inState .otpInit).latch.otpDone = false ∧ (inState .lcInit).latch.lcDone = false := by decide

/-- RomStatesWaitForEveryChannel: every channel in, one missing, the fetch held. -/
theorem test_witness_rom_states :
    (∀ k, k < busy.cfg.romCount → busy.latch.romDone.getLsbD k = true ∧ busy.latch.romGood.getLsbD k = true) ∧
    busy.latch.holdFetch = false ∧
    ((inState .romCheckDone).latch.romDone.getLsbD 0 = false ∧ 0 < (inState .romCheckDone).cfg.romCount) ∧
    ((inState .romCheckGood).latch.romGood.getLsbD 0 = false ∧ 0 < (inState .romCheckGood).cfg.romCount) ∧
    ({ inState .romCheckGood with latch := { s0.latch with holdFetch := true } } : State).latch.holdFetch = true := by
  decide

/-- ActiveEnablesTheCpuUntilAReset and ResetPrepDispatchesTheRequest: without a request, and with one. -/
theorem test_witness_requests :
    (inState .active).regs.resetStatus = 0#32 ∧ busy.regs.resetStatus ≠ 0#32 ∧
    (inState .resetPrep).rst.domain = .none ∧ ({ busy with fast := .resetPrep } : State).rst.domain ≠ .none := by
  decide

/-- TerminalStatesStay: `ResetWait`, `ReqPwrDn` without and with the escalation. -/
theorem test_witness_terminal :
    ((inState .resetWait).Ready ∧ (inState .resetWait).tickPending = true ∧ (inState .resetWait).slow = .idle ∧
      (inState .resetWait).fast = .resetWait ∧ (inState .resetWait).latch.escalate = false) ∧
    (inState .reqPwrDn).fast = .reqPwrDn ∧
    ({ inState .reqPwrDn with latch := { s0.latch with escalate := true } } : State).fast = .reqPwrDn := by decide

/-- UnreachableStatesFault: a slow state that is not implemented, the fast state `Invalid`. -/
theorem test_witness_unreachable :
    (let s : State := { s0 with slow := .invalid }
     s.Ready ∧ s.tickPending = true ∧ s.slow ≠ .reset ∧ s.slow ≠ .idle) ∧
    (let s : State := inState .invalid
     s.Ready ∧ s.tickPending = true ∧ s.slow = .idle ∧ s.latch.escalate = false ∧ s.fast = .invalid) := by decide

/-- EscalationOverridesEveryState: an escalation before the first tick and in `ResetWait`, on either kind of
instance. -/
theorem test_witness_escalation :
    (let s : State := { s0 with latch := { s0.latch with escalate := true } }
     s.Ready ∧ s.tickPending = true ∧ s.slow = .reset ∧ s.latch.escalate = true ∧ s.fast ≠ .reqPwrDn ∧
       s.cfg.main = false) ∧
    (let s : State := { s0Large with
       latch := { s0.latch with escalate := true }, slow := .idle, fast := .resetWait }
     s.Ready ∧ s.tickPending = true ∧ s.slow = .idle ∧ s.latch.escalate = true ∧ s.fast ≠ .reqPwrDn ∧
       s.cfg.main = true) := by decide

/-- SettleTimerClearsSync: armed with the word it leaves, and not armed. -/
theorem test_witness_timer :
    (settling.cdcTimerArmed = true ∧ (0#32).getLsbD 0 = false ∧
      ∀ k, 1 ≤ k → (0#32).getLsbD k = settling.regs.cfgCdcSync.getLsbD k) ∧
    s0.cdcTimerArmed = false := by
  refine ⟨⟨rfl, rfl, fun k hk => ?_⟩, rfl⟩
  have : (1#32).getLsbD k = false := by simp [BitVec.getLsbD_one]; omega
  exact (by simp : (0#32).getLsbD k = false).trans this.symm

/-- OnlyTickAndResetMoveTheFsm, TickIsArmedByTheseDeliveriesAlone, LatchIsStickyUntilReset, ConfigurationAndRecordsStand:
an operation that completes from a state where every bit they speak of is set. -/
theorem test_witness_completed :
    (∃ t, exec (.lineOtpRsp 0#8 true) running1 = .next t) ∧ Instr.lineOtpRsp 0#8 true ≠ .tick ∧
    Instr.lineOtpRsp 0#8 true ≠ .reset ∧ running1.latch.escalate = true ∧
    (∃ t, exec (.lineEscalate 0#8 true) (quiet s0) = .next t) ∧
    ({ running1 with regs := { running1.regs with escalateResetStatus := 1#32 } } : State).regs.escalateResetStatus =
      1#32 := ⟨⟨_, rfl⟩, nofun, nofun, rfl, ⟨_, rfl⟩, rfl⟩

/-- BusAccessesCompleteAndSpareTheFsm and BusWritesAreIdempotent: a read, a write, and the write completing. -/
theorem test_witness_bus : isRead .readIntrTest = true ∧ isWrite (.writeIntrTest 1#32) = true ∧
    ∃ t, exec (.writeIntrTest 1#32) s0 = .next t := ⟨rfl, rfl, ⟨_, rfl⟩⟩

/-- AtMostOneResetRequest: a second request while one is in flight, and the tick that hands it over. -/
theorem test_witness_one_request : busy.regs.resetStatus ≠ 0#32 ∧
    (∃ t, exec (.lineSwRstReq 0#8 true) busy = .next t) ∧
    ∃ t, exec .tick { busy with fast := .resetPrep } = .next t := ⟨by decide, ⟨_, rfl⟩, ⟨_, rfl⟩⟩

/-- LocksHoldUntilReset: every lock closed, and a write that tries to open one. -/
theorem test_witness_locks :
    (∃ t, exec (.writeResetEnRegwen 1#32)
      (withRegs fun r => { r with resetEnRegwen := 0#32, wakeupEnRegwen := 0#32, ctrlCfgRegwen := 0#32 }) =
      .next t) ∧ Instr.writeResetEnRegwen 1#32 ≠ .reset ∧ (0#32).getLsbD 0 = false := ⟨⟨_, rfl⟩, nofun, rfl⟩

/-- BootTakesTenTicks: S0 with program P1's four inputs latched. -/
theorem test_witness_boot :
    let s : State := { s0 with
      latch := { s0.latch with otpDone := true, lcDone := true, romDone := 1#8, romGood := 1#8 } }
    s.Ready ∧ s.deliveries = [] ∧ s.cdcTimerArmed = false ∧ s.tickPending = true ∧ s.slow = .reset ∧
    s.fast = .lowPower ∧ s.out = ⟨s.out.wakeIrq, s.out.alert, false, false, false, false⟩ ∧
    s.regs.resetStatus = 0#32 ∧ s.latch.escalate = false ∧ s.latch.holdFetch = false ∧
    s.latch.otpDone = true ∧ s.latch.lcDone = true ∧
    ∀ k, k < s.cfg.romCount → s.latch.romDone.getLsbD k = true ∧ s.latch.romGood.getLsbD k = true := by decide

/-- PendingResetReachesResetWait: program P2 after its second row. -/
theorem test_witness_reset_wait :
    let s : State := { busy with cdcTimerArmed := false }
    s.TableTickDue ∧ s.deliveries = [] ∧ s.cdcTimerArmed = false ∧ s.fast = .active ∧ s.out.cpuEn = true ∧
    s.regs.resetStatus ≠ 0#32 ∧ s.rst.domain ≠ .none := by decide

/-- ConstructedStateIsTheResetState, ConstructedStateMeetsTheInvariant, ReadsReturnTheStoredWord: R8's two outcomes of
construction, and a reset that completes. -/
theorem test_witness_construct : State.construct Config.testTA = .ok State.reset ∧
    Config.testTA.wellFormed = true ∧
    Config.wellFormed { Config.testTA with resetDispatch := [⟨1⟩] } = false ∧
    State.construct { Config.testTA with resetDispatch := [⟨1⟩] } = .error .illFormedConfiguration ∧
    ∃ t, exec .reset running1 = .next t := ⟨rfl, rfl, rfl, rfl, _, rfl⟩

/-! ## Which runs R67 admits -/

/-- A block with nothing to do may rest for good. -/
theorem test_resting_run_admitted : Admitted (fun _ => quiet s0) (fun _ => none) :=
  ⟨fun _ => ⟨[], 0, rfl⟩, fun n h => Bool.noConfusion (h n (Nat.le_refl n)).2,
    fun n h => Bool.noConfusion (h n (Nat.le_refl n)).2⟩

/-- S0 after `n` reads of INTR_STATE. -/
def afterReads (n : Nat) : State := { s0 with results := List.replicate n ⟨0#32, true⟩ }

/-- A run that reads a register for good while a tick is pending is a run, and is not admitted. -/
theorem test_starving_run_refused : IsRun afterReads (fun _ => some .readIntrState) ∧
    ¬Admitted afterReads (fun _ => some .readIntrState) := by
  refine ⟨fun n => ⟨rfl, [], 0, ?_⟩, fun h => ?_⟩
  · have : afterReads (n + 1) = { s0 with results := List.replicate n ⟨0#32, true⟩ ++ [⟨0#32, true⟩] } := by
      simp [afterReads, List.replicate_succ']
    rw [this]
    exact readStored_of_ready (s := { afterReads n with deliveries := [], freeCount := 0 })
      ⟨rfl, (by decide : Config.testTA.wellFormed = true)⟩
  · obtain ⟨_, _, ho⟩ := h.2.1 0 fun _ _ => ⟨rfl, rfl⟩
    cases ho

/-- A run takes no bus access that the framework does not deliver: misaligned, at a register's offset, or at the end of
the window, 0x80 bytes in TA (R61, R72, R73). -/
theorem test_undelivered_access_is_no_move (t : State) : ¬Move s0 (some (.readUnmapped 0x46#16)) t ∧
    ¬Move s0 (some (.writeUnmapped 0x14#16 1#32)) t ∧ ¬Move s0 (some (.readUnmapped 0x80#16)) t :=
  ⟨fun h => Bool.noConfusion h.1, fun h => Bool.noConfusion h.1, fun h => Bool.noConfusion h.1⟩

end Sys2Proof.Tests
end

/-! # Register access: stored reads, and the writes that drive the interrupt line (spec 40_register_access.md) -/

namespace Sys2Proof.Machine

/-! ## The words of the bus accesses (R84) -/

theorem encode_readInstr_eq_append (r : Reg) : encode r.readInstr = 0#16 ++ r.offset ++ 0#32 :=
  encode_readInstr r

theorem encode_writeInstr_eq_append (r : Reg) (data : Word) :
    encode (r.writeInstr data) = 0x2000#16 ++ r.offset ++ data :=
  encode_writeInstr r data

/-! ## What the stored words can be -/

/-- R22: the bits outside the legal mask are 0 in the stored word. -/
theorem BlockInv.getLsbD_reg_of_not_legal {s : State} (h : BlockInv s) {r : Reg} (hr : r ≠ .resetStatus) {k : Nat}
    (hk : (legal s.cfg r).getLsbD k = false) : (s.reg r).getLsbD k = false := by
  by_cases hw : k < 32
  · have hbit := congrArg (BitVec.getLsbD · k) (h.regsLegal r hr)
    simpa only [BitVec.getLsbD_and, BitVec.getLsbD_not, BitVec.getLsbD_zero, hw, hk, decide_true, Bool.not_false,
      Bool.and_true] using hbit
  · exact BitVec.getLsbD_of_ge _ k (Nat.le_of_not_lt hw)

/-- R34: RESET_EN has no bit at or above the hardware lines. -/
theorem BlockInv.getLsbD_resetEn {s : State} (h : BlockInv s) {k : Nat} (hk : s.cfg.resetCount ≤ k) :
    s.regs.resetEn.getLsbD k = false := by
  refine h.getLsbD_reg_of_not_legal (r := .resetEn) nofun ?_
  obtain ⟨hcount, hmask, -⟩ := wellFormed_facts h.configured
  rw [legal, hmask, getLsbD_mask 32 _ _ (by omega)]
  exact decide_eq_false (Nat.not_lt.mpr hk)

/-- R8, R271: a constructed block is in its reset state. -/
theorem eq_afterReset_of_construct_ok {c : Config} {s : State} (h : State.construct c = .ok s) :
    s = State.afterReset c := by
  unfold State.construct at h
  split at h
  · exact (Except.ok.inj h).symm
  · cases h

/-- R270: component reset gives the register file its reset words. -/
theorem regs_of_exec_reset {s t : State} (h : exec .reset s = .next t) : t.regs = RegFile.init s.cfg := by
  obtain rfl := Host.Outcome.next.inj ((execReset_of_ready (exec_ready h)).symm.trans h)
  rfl

/-- Settles O10: each read is the one law of stored reads at its register; the corner cases are parts of the invariant,
with R22's masks for INTR_STATE, INTR_ENABLE and RESET_EN. -/
theorem readsReturnTheStoredWord : Obligations.ReadsReturnTheStoredWord := by
  unfold Obligations.ReadsReturnTheStoredWord
  refine ⟨fun s hs => ?reads, fun s _ hinv => ?words, fun c s h => ?constructed, fun s t h => ?reset, ?encodings⟩
  case reads =>
    have read (r : Reg) := readStored_of_ready (r := r) hs
    exact ⟨read .intrState, read .intrEnable, read .ctrlCfgRegwen, read .cfgCdcSync, read .wakeupEnRegwen,
      read .wakeStatus, read .resetEnRegwen, read .resetEn, read .wakeInfoCaptureDis, read .wakeInfo,
      read .faultStatus⟩
  case words =>
    obtain ⟨hwake, hinfo, hfault⟩ := hinv.neverSet
    have bit0 (k : Nat) (hk : 1 ≤ k) : (0x1#32).getLsbD k = false := by
      simp [BitVec.getLsbD_one, Nat.ne_of_gt hk]
    exact ⟨fun k hk => ⟨hinv.getLsbD_reg_of_not_legal (r := .intrState) nofun (bit0 k hk),
        hinv.getLsbD_reg_of_not_legal (r := .intrEnable) nofun (bit0 k hk)⟩,
      hinv.controlOpen, hwake, hinfo, hfault, hinv.syncPulse, fun _ => hinv.getLsbD_resetEn⟩
  case constructed =>
    obtain rfl := eq_afterReset_of_construct_ok h
    exact ⟨rfl, rfl⟩
  case reset =>
    rw [regs_of_exec_reset h]
    exact ⟨rfl, rfl⟩
  case encodings =>
    have word := encode_readInstr_eq_append
    exact ⟨word .intrState, word .intrEnable, word .ctrlCfgRegwen, word .cfgCdcSync, word .wakeupEnRegwen,
      word .wakeStatus, word .resetEnRegwen, word .resetEn, word .wakeInfoCaptureDis, word .wakeInfo,
      word .faultStatus⟩

/-! ## The interrupt line -/

/-- R136, R11: `wake_irq` takes the level of R53, with an event iff it changes. -/
theorem updateIrq_eq (s : State) : s.updateIrq = { s with
    out := { s.out with wakeIrq := irqLevel s.regs }
    history := s.history ++ if s.out.wakeIrq = irqLevel s.regs then [] else [.line .wakeIrq (irqLevel s.regs)] } :=
  rfl

theorem exec_writeIntrState_of_ready {s : State} (hs : s.Ready) (data : Word) :
    exec (.writeIntrState data) s =
      .next (s.setReg .intrState (s.regs.intrState &&& ~~~(data &&& 1#32))).updateIrq :=
  running_of_ready hs

theorem exec_writeIntrEnable_of_ready {s : State} (hs : s.Ready) (data : Word) :
    exec (.writeIntrEnable data) s = .next (s.setReg .intrEnable (data &&& 1#32)).updateIrq :=
  running_of_ready hs

/-- Settles O14: each write stores its masked word, and the line follows the register file it leaves. -/
theorem interruptStateAndEnableWrites : Obligations.InterruptStateAndEnableWrites := by
  unfold Obligations.InterruptStateAndEnableWrites
  intro s data v b hs
  refine ⟨?state, ?enable, encode_writeInstr_eq_append .intrState data,
    encode_writeInstr_eq_append .intrEnable data⟩
  case state =>
    rintro rfl rfl
    rw [exec_writeIntrState_of_ready hs, updateIrq_eq]
    rfl
  case enable =>
    rintro rfl rfl
    rw [exec_writeIntrEnable_of_ready hs, updateIrq_eq]
    rfl

end Sys2Proof.Machine

/-! # The FSM tick: the rows of the boot sequence (spec 42_fsm_tick.md) -/

namespace Sys2Proof.Machine

/-! ## A tick takes its row of the table -/

/-- The table gives each state one row: with `fastStep_ok`, the rows are exactly what the fast machine does (R183). -/
theorem TableRow.fastStep_eq {s u : State} (h : TableRow s u) : fastStep s = .ok u := by
  cases h
  case stay hw =>
    rcases hw with (⟨hf, hd⟩ | ⟨hf, hd⟩ | ⟨hf, hd⟩ | ⟨hf, hd⟩) | hf | hf
    · simp [fastStep, hf, stepOtpInit, hd]
    · simp [fastStep, hf, stepLcInit, hd]
    · simp [fastStep, hf, stepRomCheckDone, hd]
    · rcases hd with hd | hd <;> simp [fastStep, hf, stepRomCheckGood, hd]
    · simp [fastStep, hf]
    · simp [fastStep, hf]
  case otpInit hf hd => simp [fastStep, hf, stepOtpInit, hd, State.goto]
  case lcInit hf hd => simp [fastStep, hf, stepLcInit, hd, State.goto]
  case romCheckDone hf hd => simp [fastStep, hf, stepRomCheckDone, hd, State.goto]
  case romCheckGood hf hd hh => simp [fastStep, hf, stepRomCheckGood, hd, hh, State.goto]
  case activeIdle hf hr => simp [fastStep, hf, stepActive, State.resetInFlight, State.reg, RegFile.get, hr]
  case activeReset hf hr =>
    simp [fastStep, hf, stepActive, State.resetInFlight, State.reg, RegFile.get, hr, State.goto]
  case unimplemented hf =>
    rcases hf with hf | hf | hf | hf <;> simp [fastStep, hf, stepUnimplemented, State.goto]
  case resetPrepNone hf hd => simp [fastStep, hf, stepResetPrep, hd, State.goto]
  case resetPrep hf hd => simp [fastStep, hf, stepResetPrep, hd, State.goto]
  case lowPower hf | enableClocks hf | releaseLcReset hf | ackPwrUp hf | strap hf | disClocks hf =>
    simp [fastStep, hf, State.goto]

/-- R180 without an escalation: the tick takes its row, ends with `slow = Idle`, and arms the next tick iff one of the
two machines moved. -/
theorem exec_tick_of_row {s u : State} (hr : s.Ready) (hp : s.tickPending = true)
    (hs : s.slow = .reset ∨ s.slow = .idle) (he : s.latch.escalate = false) (hu : TableRow s u) :
    exec .tick s = .next { u with slow := .idle, tickPending := u.fast != s.fast || s.slow == .reset } := by
  refine execTick_next_iff.mpr ⟨hr, hp, ?_⟩
  rcases hs with hs | hs
  · have hrow := (hu.relabel .idle false).fastStep_eq
    exact .inl ⟨hs, fastPass_next_iff.mpr (.inr ⟨he, _, hrow, by simp [rearmIf_eq, hs]⟩)⟩
  · have hrow := (hu.relabel s.slow false).fastStep_eq
    exact .inr ⟨hs, fastPass_next_iff.mpr (.inr ⟨he, _, hrow, by simp [rearmIf_eq, hs]⟩)⟩

/-- A row that leaves its state leaves the next tick armed. -/
theorem exec_tick_of_moving_row {s u : State} (hr : s.Ready) (hp : s.tickPending = true)
    (hs : s.slow = .reset ∨ s.slow = .idle) (he : s.latch.escalate = false) (hu : TableRow s u)
    (hm : u.fast ≠ s.fast) : exec .tick s = .next { u with slow := .idle } := by
  obtain ⟨-, hpending, -⟩ := hu.frame
  rw [exec_tick_of_row hr hp hs he hu, bne_iff_ne.mpr hm, Bool.true_or, ← hp, ← hpending]

theorem State.TableTickDue.exec_tick_moves {s u : State} (h : s.TableTickDue) (hu : TableRow s u)
    (hm : u.fast ≠ s.fast) : exec .tick s = .next u := by
  obtain ⟨hr, hp, hi, he⟩ := h
  obtain ⟨hslow, -⟩ := hu.frame
  rw [exec_tick_of_moving_row hr hp (.inr hi) he hu hm, ← hi, ← hslow]

/-- A state that waits for an input only takes the pending tick. -/
theorem State.TableTickDue.exec_tick_waits {s : State} (h : s.TableTickDue) (hb : s.Blocked) :
    exec .tick s = .next { s with tickPending := false } := by
  obtain ⟨hr, hp, hi, he⟩ := h
  rw [exec_tick_of_row hr hp (.inr hi) he (.stay (.inl hb)), ← hi]
  simp [hi]

/-! ## Driving a line (R11) -/

theorem setOut_true (s : State) (l : OutLine) : s.setOut l true = { s with
    out := s.out.set true l
    history := s.history ++ if s.out.get l then [] else [.line l true] } :=
  rfl

theorem setOut_false (s : State) (l : OutLine) : s.setOut l false = { s with
    out := s.out.set false l
    history := s.history ++ if s.out.get l then [.line l false] else [] } := by
  cases hl : s.out.get l <;> simp [State.setOut, lineEvents, hl]

/-! ## The ROM bitmaps (R191, R192) -/

theorem allRoms_eq_false_iff {c : Config} (hc : c.romCount ≤ 8) (b : BitVec 8) :
    allRoms c b = false ↔ ∃ k, k < c.romCount ∧ b.getLsbD k = false := by
  simp [← Bool.not_eq_true, allRoms_iff hc]

/-! ## The statements -/

/-- Settles O38: each complete bitmap gives the row that leaves its state; a missing channel, or the fetch hold, leaves
the state waiting. -/
theorem romStatesWaitForEveryChannel : Obligations.RomStatesWaitForEveryChannel := by
  unfold Obligations.RomStatesWaitForEveryChannel
  intro s h
  have ⟨⟨_, hconfigured⟩, _⟩ := h
  obtain ⟨-, -, -, hcount, -⟩ := wellFormed_facts hconfigured
  have complete (b : BitVec 8) := (allRoms_iff hcount b).mpr
  have incomplete (b : BitVec 8) := (allRoms_eq_false_iff hcount b).mpr
  refine ⟨fun hf hd => ?allDone, fun hf hd => ?oneNotDone, fun hf hg hh => ?allGood, fun hf hw => ?waiting⟩
  case allDone =>
    rw [h.exec_tick_moves (.romCheckDone hf (complete _ hd)) (by simp [hf]), setOut_false]
    rfl
  case oneNotDone => exact h.exec_tick_waits (.inr (.inr (.inl ⟨hf, incomplete _ hd⟩)))
  case allGood => exact h.exec_tick_moves (.romCheckGood hf (complete _ hg) hh) (by simp [hf])
  case waiting => exact h.exec_tick_waits (.inr (.inr (.inr ⟨hf, hw.imp_left (incomplete _)⟩)))

/-- Settles O35: each state's row has no condition and leaves the state. -/
theorem unconditionalStatesAdvance : Obligations.UnconditionalStatesAdvance := by
  unfold Obligations.UnconditionalStatesAdvance
  refine ⟨fun s hr hp hs he hf => ?lowPower, fun s h => ⟨fun hf => ?enableClocks, fun hf => ?ackPwrUp,
    fun hf => ?disClocks⟩⟩
  case lowPower => exact exec_tick_of_moving_row hr hp hs he (.lowPower hf) (by simp [hf])
  case enableClocks => exact h.exec_tick_moves (.enableClocks hf) (by simp [hf])
  case ackPwrUp => exact h.exec_tick_moves (.ackPwrUp hf) (by simp [hf])
  case disClocks => exact h.exec_tick_moves (.disClocks hf) (by simp [hf])

/-- Settles O36: each state's row raises its line and leaves the state. -/
theorem requestStatesAssertTheirLine : Obligations.RequestStatesAssertTheirLine := by
  unfold Obligations.RequestStatesAssertTheirLine
  refine fun s h => ⟨fun hf => ?releaseLcReset, fun hf => ?strap⟩
  case releaseLcReset =>
    rw [h.exec_tick_moves (.releaseLcReset hf) (by simp [hf]), setOut_true]
    rfl
  case strap =>
    rw [h.exec_tick_moves (.strap hf) (by simp [hf]), setOut_true]
    rfl

/-- Settles O37: with the response the row drives its lines, in R187's order, and leaves the state; without it the state
waits. -/
theorem handshakeStatesWaitForTheirResponse : Obligations.HandshakeStatesWaitForTheirResponse := by
  unfold Obligations.HandshakeStatesWaitForTheirResponse
  refine fun s h => ⟨fun hf hd => ?otpDone, fun hf hd => ?otpWaits, fun hf hd => ?lcDone, fun hf hd => ?lcWaits⟩
  case otpDone =>
    rw [h.exec_tick_moves (.otpInit hf hd) (by simp [hf]), setOut_true, setOut_false]
    rfl
  case otpWaits => exact h.exec_tick_waits (.inl ⟨hf, hd⟩)
  case lcDone =>
    rw [h.exec_tick_moves (.lcInit hf hd) (by simp [hf]), setOut_false]
    rfl
  case lcWaits => exact h.exec_tick_waits (.inr (.inl ⟨hf, hd⟩))

end Sys2Proof.Machine

/-! # The operation words: decoding and encoding undo each other (spec 30_encoding.md section 3) -/

namespace Sys2Proof

/-! ## The rows of the opcode table (R89) -/

/-- Every operation is the READ or WRITE row of a register, an unmapped access, the LINE row of a port, or one of the
three operations without operands. -/
inductive Instr.Row : Instr → Prop where
  | read (r : Reg) : Row r.readInstr
  | write (r : Reg) (data : Word) : Row (r.writeInstr data)
  | readUnmapped (offset : BitVec 16) : Row (.readUnmapped offset)
  | writeUnmapped (offset : BitVec 16) (data : Word) : Row (.writeUnmapped offset data)
  | line (p : Port) (index : BitVec 8) (level : Bool) : Row (p.lineInstr index level)
  | tick : Row .tick
  | timerExpire : Row .timerExpire
  | reset : Row .reset

theorem Instr.row : ∀ i : Instr, i.Row
  | .readIntrState => .read .intrState
  | .writeIntrState data => .write .intrState data
  | .readIntrEnable => .read .intrEnable
  | .writeIntrEnable data => .write .intrEnable data
  | .readIntrTest => .read .intrTest
  | .writeIntrTest data => .write .intrTest data
  | .readAlertTest => .read .alertTest
  | .writeAlertTest data => .write .alertTest data
  | .readCtrlCfgRegwen => .read .ctrlCfgRegwen
  | .writeCtrlCfgRegwen data => .write .ctrlCfgRegwen data
  | .readControl => .read .control
  | .writeControl data => .write .control data
  | .readCfgCdcSync => .read .cfgCdcSync
  | .writeCfgCdcSync data => .write .cfgCdcSync data
  | .readWakeupEnRegwen => .read .wakeupEnRegwen
  | .writeWakeupEnRegwen data => .write .wakeupEnRegwen data
  | .readWakeupEn => .read .wakeupEn
  | .writeWakeupEn data => .write .wakeupEn data
  | .readWakeStatus => .read .wakeStatus
  | .writeWakeStatus data => .write .wakeStatus data
  | .readResetEnRegwen => .read .resetEnRegwen
  | .writeResetEnRegwen data => .write .resetEnRegwen data
  | .readResetEn => .read .resetEn
  | .writeResetEn data => .write .resetEn data
  | .readResetStatus => .read .resetStatus
  | .writeResetStatus data => .write .resetStatus data
  | .readEscalateResetStatus => .read .escalateResetStatus
  | .writeEscalateResetStatus data => .write .escalateResetStatus data
  | .readWakeInfoCaptureDis => .read .wakeInfoCaptureDis
  | .writeWakeInfoCaptureDis data => .write .wakeInfoCaptureDis data
  | .readWakeInfo => .read .wakeInfo
  | .writeWakeInfo data => .write .wakeInfo data
  | .readFaultStatus => .read .faultStatus
  | .writeFaultStatus data => .write .faultStatus data
  | .readUnmapped offset => .readUnmapped offset
  | .writeUnmapped offset data => .writeUnmapped offset data
  | .lineRomGood index level => .line .romGood index level
  | .lineRomDone index level => .line .romDone index level
  | .lineWakeup index level => .line .wakeup index level
  | .lineRstReq index level => .line .rstReq index level
  | .lineSwRstReq index level => .line .swRstReq index level
  | .lineLcRsp index level => .line .lcRsp index level
  | .lineOtpRsp index level => .line .otpRsp index level
  | .lineEscalate index level => .line .escalate index level
  | .lineHoldFetch index level => .line .holdFetch index level
  | .tick => .tick
  | .timerExpire => .timerExpire
  | .reset => .reset

/-! ## Bus offsets (R61, R73, R80) -/

theorem Reg.atIndex_eq_none {k : Nat} (h : 17 ≤ k) : Reg.atIndex k = none := by
  cases hr : Reg.atIndex k with
  | none => rfl
  | some r =>
    have hoffset := Reg.atIndex_some hr
    obtain ⟨-, hlast⟩ := r.offset_facts
    omega

theorem decodeOffset_ok_iff {c : Config} {offset : BitVec 16} {m : Option Reg} :
    decodeOffset c offset = .ok m ↔
      offset.toNat % 4 = 0 ∧ offset.toNat < c.mmioSize ∧ Reg.atIndex (offset.toNat / 4) = m := by
  unfold decodeOffset
  split
  · simp [*]
  · split
    · simp only [reduceCtorEq, false_iff, not_and]
      omega
    · simp_all

/-- The last register lies inside every well-formed window (R8). -/
theorem decodeOffset_register {c : Config} (hc : c.wellFormed = true) (r : Reg) :
    decodeOffset c r.offset = .ok (some r) := by
  obtain ⟨haligned, hlast⟩ := r.offset_facts
  obtain ⟨-, -, -, -, -, -, hwindow, -⟩ := Machine.wellFormed_facts hc
  exact decodeOffset_ok_iff.mpr ⟨haligned, by omega, r.atIndex_offset⟩

theorem decodeOffset_unmapped {c : Config} {offset : BitVec 16} (h : unmappedOffset c offset = true) :
    decodeOffset c offset = .ok none := by
  simp only [unmappedOffset, Bool.and_eq_true, decide_eq_true_eq] at h
  obtain ⟨⟨haligned, hfirst⟩, hwindow⟩ := h
  exact decodeOffset_ok_iff.mpr ⟨haligned, hwindow, Reg.atIndex_eq_none (by omega)⟩

/-- An offset that decodes to a register is its own. -/
theorem offset_eq_of_decodeOffset {c : Config} {offset : BitVec 16} {r : Reg}
    (h : decodeOffset c offset = .ok (some r)) : r.offset = offset := by
  obtain ⟨haligned, -, hr⟩ := decodeOffset_ok_iff.mp h
  have hoffset := Reg.atIndex_some hr
  exact BitVec.eq_of_toNat_eq (by omega)

/-! ## Decoding an assembled word -/

theorem decode_encodeRead {c : Config} {offset : BitVec 16} {m : Option Reg} (h : decodeOffset c offset = .ok m) :
    decode c (encodeRead offset) = .ok (m.elim (.readUnmapped offset) Reg.readInstr) := by
  cases m <;> simp [decode, encodeRead, strayBits, h]

theorem decode_encodeWrite {c : Config} {offset : BitVec 16} {m : Option Reg} (data : Word)
    (h : decodeOffset c offset = .ok m) :
    decode c (encodeWrite offset data) = .ok (m.elim (.writeUnmapped offset data) (Reg.writeInstr data)) := by
  cases m <;> simp [decode, encodeWrite, strayBits, h]

theorem decode_encodeLine (c : Config) (p : Port) (index : BitVec 8) (level : Bool) :
    decode c (encodeLine p index level) = .ok (p.lineInstr index level) := by
  simp [decode, strayBits_encodeLine, Port.ofNumber_number]

/-- Settles O1: the fields of an assembled word are what was put there, row by row of the table. -/
theorem decodeUndoesEncode : Obligations.DecodeUndoesEncode := by
  unfold Obligations.DecodeUndoesEncode
  intro c i hc hi
  cases i.row with
  | read r => rw [encode_readInstr, decode_encodeRead (decodeOffset_register hc r), Option.elim]
  | write r data => rw [encode_writeInstr, decode_encodeWrite data (decodeOffset_register hc r), Option.elim]
  | readUnmapped offset => exact decode_encodeRead (decodeOffset_unmapped hi)
  | writeUnmapped offset data => exact decode_encodeWrite data (decodeOffset_unmapped hi)
  | line p index level => rw [encode_lineInstr, decode_encodeLine]
  | tick | timerExpire | reset => simp [decode, encode, strayBits]

/-! ## The words that decode -/

/-- The fields of a line word (R84): its reserved bits, and the bits its kind does not use, are 0. -/
theorem encodeLine_fields {w : OpWord} {p : Port} (hr : reservedField w = 0#5) (hk : kindField w = 2#3)
    (hp : portField w = p.number) (hindex : w.extractLsb' 40 8 = 0#8) (hlevel : w.extractLsb' 1 31 = 0#31) :
    encodeLine p (indexField w) (levelField w) = w := by
  have hoffset : 0#8 ++ indexField w = offsetField w := by
    have hsplit : w.extractLsb' 40 8 ++ indexField w = offsetField w := by
      refine BitVec.eq_of_getLsbD_eq fun k hk => ?_
      simp only [indexField, offsetField, BitVec.getLsbD_append, BitVec.getLsbD_extractLsb']
      grind
    rw [← hsplit, hindex]
  have hdata : 0#31 ++ BitVec.ofBool (levelField w) = dataField w := by
    have hsplit : w.extractLsb' 1 31 ++ BitVec.ofBool (levelField w) = dataField w := by
      refine BitVec.eq_of_getLsbD_eq fun k hk => ?_
      simp only [levelField, dataField, BitVec.getLsbD_append, BitVec.getLsbD_extractLsb', BitVec.getLsbD_ofBool]
      grind
    rw [← hsplit, hlevel]
  rw [encodeLine, hoffset, hdata, ← hk, ← hp, assemble_fields hr]

/-- What a word that decodes says, kind by kind (R85). -/
inductive Spells (c : Config) (w : OpWord) : Instr → Prop where
  | read (m : Option Reg) : kindField w = 0#3 → portField w = 0#8 → dataField w = 0#32 →
      decodeOffset c (offsetField w) = .ok m → Spells c w (m.elim (.readUnmapped (offsetField w)) Reg.readInstr)
  | write (m : Option Reg) : kindField w = 1#3 → portField w = 0#8 → decodeOffset c (offsetField w) = .ok m →
      Spells c w (m.elim (.writeUnmapped (offsetField w) (dataField w)) (Reg.writeInstr (dataField w)))
  | line (p : Port) : kindField w = 2#3 → w.extractLsb' 40 8 = 0#8 → w.extractLsb' 1 31 = 0#31 →
      Port.ofNumber (portField w).toNat = some p → Spells c w (p.lineInstr (indexField w) (levelField w))
  | bare (i : Instr) : kindField w = 3#3 ∧ i = .tick ∨ kindField w = 4#3 ∧ i = .timerExpire ∨
      kindField w = 5#3 ∧ i = .reset → portField w = 0#8 → offsetField w = 0#16 → dataField w = 0#32 → Spells c w i

/-- The kinds of R84: the two bus accesses, the delivery, the three without operands, and the reserved ones. -/
theorem kind_cases (k : BitVec 3) :
    k = 0#3 ∨ k = 1#3 ∨ k = 2#3 ∨ (k = 3#3 ∨ k = 4#3 ∨ k = 5#3) ∨ 6 ≤ k.toNat := by
  revert k; decide

theorem decode_spells {c : Config} {w : OpWord} {i : Instr} (h : decode c w = .ok i) :
    reservedField w = 0#5 ∧ Spells c w i := by
  unfold decode at h
  replace ⟨hkind, h⟩ := (ite_eq_iff.mp h).resolve_left nofun
  replace ⟨hzero, h⟩ := (ite_eq_iff.mp h).resolve_left nofun
  simp only [Bool.or_eq_true, bne_iff_ne, ne_eq, not_or, not_not, Bool.not_eq_true] at hzero
  obtain ⟨hr, hstray⟩ := hzero
  refine ⟨hr, ?_⟩
  rcases kind_cases (kindField w) with hk | hk | hk | hk | hk
  · simp only [strayBits, hk, BitVec.toNat_ofNat, Nat.reducePow, Nat.zero_mod, Bool.or_eq_false_iff,
      bne_eq_false_iff_eq] at hstray h
    obtain ⟨hp, hd⟩ := hstray
    cases hm : decodeOffset c (offsetField w) with
    | error e => rw [hm] at h; cases h
    | ok m => cases m <;> rw [hm] at h <;> cases h <;> exact .read _ hk hp hd hm
  · simp only [strayBits, hk, BitVec.toNat_ofNat, Nat.reducePow, Nat.one_mod, bne_eq_false_iff_eq] at hstray h
    cases hm : decodeOffset c (offsetField w) with
    | error e => rw [hm] at h; cases h
    | ok m => cases m <;> rw [hm] at h <;> cases h <;> exact .write _ hk hstray hm
  · simp only [strayBits, hk, BitVec.toNat_ofNat, Nat.reducePow, Nat.reduceMod, Bool.or_eq_false_iff,
      bne_eq_false_iff_eq] at hstray h
    obtain ⟨hindex, hlevel⟩ := hstray
    cases hp : Port.ofNumber (portField w).toNat with
    | none => rw [hp] at h; cases h
    | some p => rw [hp] at h; cases h; exact .line p hk hindex hlevel hp
  · have hzero : strayBits w = (portField w != 0#8 || offsetField w != 0#16 || dataField w != 0#32) := by
      rcases hk with hk | hk | hk <;> simp [strayBits, hk]
    simp only [hzero, Bool.or_eq_false_iff, bne_eq_false_iff_eq] at hstray
    obtain ⟨⟨hp, ho⟩, hd⟩ := hstray
    refine .bare i ?_ hp ho hd
    rcases hk with hk | hk | hk <;> rw [hk] at h <;> cases h <;> simp [hk]
  · exact absurd hk hkind

/-- Settles O2: each word that decodes is assembled from its fields, and those are the operation's operands. -/
theorem encodeUndoesDecode : Obligations.EncodeUndoesDecode := by
  unfold Obligations.EncodeUndoesDecode
  intro c w i _ h
  refine ⟨?_, decode_wellFormed h⟩
  obtain ⟨hr, hw⟩ := decode_spells h
  have hword := assemble_fields hr
  cases hw with
  | read m hk hp hd hm =>
    rw [hk, hp, hd] at hword
    cases m with
    | none => exact hword
    | some r => rw [Option.elim, encode_readInstr, offset_eq_of_decodeOffset hm]; exact hword
  | write m hk hp hm =>
    rw [hk, hp] at hword
    cases m with
    | none => exact hword
    | some r => rw [Option.elim, encode_writeInstr, offset_eq_of_decodeOffset hm]; exact hword
  | line p hk hindex hlevel hp =>
    rw [encode_lineInstr]
    exact encodeLine_fields hr hk (BitVec.eq_of_toNat_eq (Port.ofNumber_some hp).symm) hindex hlevel
  | bare i hk hp ho hd =>
    rw [hp, ho, hd] at hword
    rcases hk with ⟨hk, rfl⟩ | ⟨hk, rfl⟩ | ⟨hk, rfl⟩ <;> rw [hk] at hword <;> exact hword

/-! ## The words that do not decode -/

theorem decodeOffset_error_iff {c : Config} {offset : BitVec 16} :
    (∃ e, decodeOffset c offset = .error e) ↔ offset.toNat % 4 ≠ 0 ∨ c.mmioSize ≤ offset.toNat := by
  unfold decodeOffset
  split
  · simp [*]
  · split <;> simp_all

theorem Port.ofNumber_eq_none_iff {k : Nat} : Port.ofNumber k = none ↔ 8 < k := by
  refine ⟨fun h => ?_, fun h => ?_⟩
  · by_contra hk
    interval_cases k <;> cases h
  · unfold Port.ofNumber
    split <;> first | rfl | omega

theorem extractLsb'_48_ne_zero_iff {w : OpWord} :
    w.extractLsb' 0 48 ≠ 0#48 ↔ offsetField w ≠ 0#16 ∨ dataField w ≠ 0#32 := by
  have hsplit : w.extractLsb' 0 48 = offsetField w ++ dataField w := by
    refine BitVec.eq_of_getLsbD_eq fun k hk => ?_
    simp only [offsetField, dataField, BitVec.getLsbD_append, BitVec.getLsbD_extractLsb']
    grind
  rw [hsplit, ← not_and_or, not_iff_not]
  refine ⟨fun h => ⟨?_, ?_⟩, fun ⟨ho, hd⟩ => by rw [ho, hd]; rfl⟩
  · rw [← BitVec.extractLsb'_append_eq_left (a := offsetField w) (b := dataField w), h]
    rfl
  · rw [← BitVec.extractLsb'_append_eq_right (a := offsetField w) (b := dataField w), h]
    rfl

/-- R85, R86: what refuses a word, in the terms of its fields. -/
theorem decode_error_iff {c : Config} {w : OpWord} : (∃ e, decode c w = .error e) ↔
    6 ≤ (kindField w).toNat ∨ reservedField w ≠ 0#5 ∨ strayBits w = true ∨
    ((kindField w).toNat ≤ 1 ∧ ∃ e, decodeOffset c (offsetField w) = .error e) ∨
    (kindField w = 2#3 ∧ Port.ofNumber (portField w).toNat = none) := by
  unfold decode
  by_cases hkind : 6 ≤ (kindField w).toNat
  · simp [hkind]
  by_cases hr : reservedField w = 0#5
  swap
  · simp [hkind, hr]
  cases hstray : strayBits w
  swap
  · simp [hkind]
  simp only [hkind, hr, bne_self_eq_false, Bool.or_self, Bool.false_eq_true, if_false, ne_eq, not_true_eq_false,
    false_or]
  rcases kind_cases (kindField w) with hk | hk | hk | hk | hk
  case inl | inr.inl =>
    cases decodeOffset c (offsetField w) with
    | error e => simp [hk]
    | ok m => cases m <;> simp [hk]
  · cases Port.ofNumber (portField w).toNat <;> simp [hk]
  · rcases hk with hk | hk | hk <;> simp [hk]
  · exact absurd hk hkind

theorem strayBits_iff {w : OpWord} (hkind : (kindField w).toNat < 6) : strayBits w = true ↔
    (kindField w ≠ 2#3 ∧ portField w ≠ 0#8) ∨
    (kindField w = 2#3 ∧ (w.extractLsb' 40 8 ≠ 0#8 ∨ w.extractLsb' 1 31 ≠ 0#31)) ∨
    (kindField w = 0#3 ∧ dataField w ≠ 0#32) ∨
    (3 ≤ (kindField w).toNat ∧ w.extractLsb' 0 48 ≠ 0#48) := by
  rw [extractLsb'_48_ne_zero_iff]
  rcases kind_cases (kindField w) with hk | hk | hk | hk | hk
  case inl | inr.inl | inr.inr.inl => simp [strayBits, hk]
  · rcases hk with hk | hk | hk <;> simp [strayBits, hk, or_assoc]
  · omega

/-- Settles O3: the decoder's own checks, each told by the bits it looks at. -/
theorem refusedWordsAreExactlyThese : Obligations.RefusedWordsAreExactlyThese := by
  unfold Obligations.RefusedWordsAreExactlyThese
  intro c w
  rw [decode_error_iff, decodeOffset_error_iff, Port.ofNumber_eq_none_iff]
  by_cases hkind : 6 ≤ (kindField w).toNat
  · exact iff_of_true (.inl hkind) (.inl hkind)
  · rw [strayBits_iff (by omega)]
    simp only [kindField, reservedField, portField, offsetField, dataField, and_or_left, or_assoc]

/-- Settles O4: the seven words, decoded. -/
theorem sampleWordsDecode : Obligations.SampleWordsDecode :=
  ⟨rfl, rfl, rfl, rfl, rfl, rfl, rfl⟩

end Sys2Proof

/-! # What no operation but TICK or RESET can do (spec 41_signal_inputs.md, 42_fsm_tick.md, 70_reset_and_hazards.md) -/

namespace Sys2Proof.Machine

/-! ## The tick's frame -/

theorem FastMove.frame {s u : State} (h : FastMove s u) : u.cfg = s.cfg ∧ u.regs = s.regs ∧ u.latch = s.latch ∧
    u.cdcTimerArmed = s.cdcTimerArmed ∧ u.results = s.results ∧ u.out.wakeIrq = s.out.wakeIrq := by
  cases h with
  | shutDown | escalate => exact ⟨rfl, rfl, rfl, rfl, rfl, rfl⟩
  | table _ hu =>
    obtain ⟨-, -, hcfg, hregs, hlatch, htimer, -, hresults, -, hirq⟩ := hu.frame
    exact ⟨hcfg, hregs, hlatch, htimer, hresults, hirq⟩

/-- A tick writes no register, no latch bit and no read result (R180). -/
theorem exec_tick_frame {s t : State} (h : exec .tick s = .next t) : t.cfg = s.cfg ∧ t.regs = s.regs ∧
    t.latch = s.latch ∧ t.cdcTimerArmed = s.cdcTimerArmed ∧ t.results = s.results ∧
    t.out.wakeIrq = s.out.wakeIrq := by
  obtain ⟨-, -, -, u, hu, ht⟩ := tick_cases h
  subst ht
  exact hu.frame

/-- Case analysis on the operation of a completed step: the tick's move, or one of the other operations' effects. -/
theorem exec_next_cases {i : Instr} {s t : State} (h : exec i s = .next t) :
    i = .tick ∧ exec .tick s = .next t ∨ i ≠ .tick ∧ Effect s i t := by
  by_cases hi : i = .tick
  · subst hi
    exact .inl ⟨rfl, h⟩
  · exact .inr ⟨hi, exec_effect hi h⟩

/-! ## The FSM and its lines -/

/-- Only TICK and RESET move the state machines, halt the block or drive a request line (92 D36). -/
theorem Effect.spares_fsm {i : Instr} {s t : State} (h : Effect s i t) (hr : i ≠ .reset) :
    t.slow = s.slow ∧ t.fast = s.fast ∧ t.halted = s.halted ∧ t.out.otpReq = s.out.otpReq ∧
    t.out.lcReq = s.out.lcReq ∧ t.out.cpuEn = s.out.cpuEn ∧ t.out.strap = s.out.strap := by
  cases h
  case reset => exact absurd rfl hr
  all_goals exact ⟨rfl, rfl, rfl, rfl, rfl, rfl, rfl⟩

theorem eq_line_of_mem_lineEvents {o : Outputs} {l : OutLine} {b : Bool} {e : Event} (h : e ∈ lineEvents o l b) :
    e = .line l b := by
  unfold lineEvents at h
  split at h
  · cases h
  · exact List.mem_singleton.mp h

theorem Effect.history_append {i : Instr} {s t : State} (h : Effect s i t) (hr : i ≠ .reset) :
    ∃ es, t.history = s.history ++ es ∧
      ∀ e ∈ es, (∃ d, e = .diag d) ∨ (∃ b, e = .line .wakeIrq b) ∨ e = .line .alert true := by
  cases h
  case reset => exact absurd rfl hr
  case read es r hes _ => exact ⟨es, rfl, fun e he => .inl (hes e he)⟩
  case report d _ _ => exact ⟨[.diag d], rfl, fun e he => .inl ⟨d, List.mem_singleton.mp he⟩⟩
  case intrState | intrEnable | intrTest =>
    exact ⟨_, rfl, fun e he => .inr (.inl ⟨_, eq_line_of_mem_lineEvents he⟩)⟩
  case alert => exact ⟨_, rfl, fun e he => .inr (.inr (eq_line_of_mem_lineEvents he))⟩
  all_goals exact ⟨[], (List.append_nil _).symm, nofun⟩

/-- Settles O51: no effect of another operation names these fields, and each one's events are listed with it. -/
theorem onlyTickAndResetMoveTheFsm : Obligations.OnlyTickAndResetMoveTheFsm := by
  unfold Obligations.OnlyTickAndResetMoveTheFsm
  intro i s t hi hr h
  have heffect := exec_effect hi h
  obtain ⟨hslow, hfast, hhalted, hotp, hlc, hcpu, hstrap⟩ := heffect.spares_fsm hr
  exact ⟨hslow, hfast, hhalted, hotp, hlc, hcpu, hstrap, heffect.history_append hr⟩

/-! ## The pending tick (R153) -/

theorem armsTick_of_isRead {i : Instr} (s : State) (h : isRead i = true) : armsTick s i = false := by
  cases i <;> first | rfl | cases h

/-- Settles O53: each effect either leaves the pending tick, and its operation is no arming delivery, or arms it. -/
theorem tickIsArmedByTheseDeliveriesAlone : Obligations.TickIsArmedByTheseDeliveriesAlone := by
  unfold Obligations.TickIsArmedByTheseDeliveriesAlone
  intro i s t hi h
  cases exec_effect hi h
  case read _ hread => simp [armsTick_of_isRead s hread]
  case nothing ha | report ha => simp [ha]
  case reset => simp [armsTick, State.afterReset]
  case romGood hindex | romDone hindex => simp [armsTick, hindex]
  case hwReset hindex hstatus hen => simp [armsTick, hindex, hstatus, hen]
  case swReset hstatus => simp [armsTick, hstatus]
  case holdFetch hcontrol => simp [armsTick, hcontrol]
  case lcRsp | otpRsp | escalate => simp [armsTick]
  all_goals exact (Bool.or_false _).symm

/-! ## The event latch (R41, R163) -/

theorem and_or_self_left (a b : BitVec 8) : a &&& (a ||| b) = a := by
  refine BitVec.eq_of_getLsbD_eq fun k _ => ?_
  rw [BitVec.getLsbD_and, BitVec.getLsbD_or]
  cases a.getLsbD k <;> rfl

/-- Settles O54: the deliveries only set their own bits of the latch, and nothing else but RESET writes it. -/
theorem latchIsStickyUntilReset : Obligations.LatchIsStickyUntilReset := by
  unfold Obligations.LatchIsStickyUntilReset
  intro i s t hr h
  have hself (b : BitVec 8) : b &&& b = b := BitVec.and_self
  have hset {p : Prop} : p → true = true := fun _ => rfl
  rcases exec_next_cases h with ⟨-, h⟩ | ⟨-, heffect⟩
  · obtain ⟨-, hregs, hlatch, -⟩ := exec_tick_frame h
    rw [hregs, hlatch]
    exact ⟨id, id, id, id, id, hself _, hself _, id, fun _ => rfl⟩
  · cases heffect
    case reset => exact absurd rfl hr
    case hwReset => exact ⟨hset, id, id, id, id, hself _, hself _, id, fun _ => rfl⟩
    case swReset => exact ⟨id, hset, id, id, id, hself _, hself _, id, fun _ => rfl⟩
    case otpRsp => exact ⟨id, id, hset, id, id, hself _, hself _, id, fun _ => rfl⟩
    case lcRsp => exact ⟨id, id, id, hset, id, hself _, hself _, id, fun _ => rfl⟩
    case escalate => exact ⟨id, id, id, id, hset, hself _, hself _, fun _ => rfl, fun _ => rfl⟩
    case romGood => exact ⟨id, id, id, id, id, and_or_self_left .., hself _, id, fun _ => rfl⟩
    case romDone => exact ⟨id, id, id, id, id, hself _, and_or_self_left .., id, fun _ => rfl⟩
    case holdFetch level _ => exact ⟨id, id, id, id, id, hself _, hself _, id, fun hi => absurd rfl (hi 0#8 level)⟩
    all_goals exact ⟨id, id, id, id, id, hself _, hself _, id, fun _ => rfl⟩

/-! ## One reset request (R43, R164) -/

/-- A row keeps the pending request, or hands it over in `ResetPrep` (R200). -/
theorem TableRow.request {s u : State} (h : TableRow s u) : u.rst = s.rst ∨
    s.fast = .resetPrep ∧ u.rst.domain = .none ∧ .resetReq s.rst.domain s.rst.cause ∈ u.history := by
  cases h
  case resetPrep hf hd => exact .inr ⟨hf, rfl, List.mem_append_right _ (List.mem_singleton.mpr rfl)⟩
  all_goals exact .inl rfl

theorem FastMove.request {s u : State} (h : FastMove s u) : u.rst = s.rst ∨
    s.fast = .resetPrep ∧ u.rst.domain = .none ∧ .resetReq s.rst.domain s.rst.cause ∈ u.history := by
  cases h with
  | shutDown | escalate => exact .inl rfl
  | table _ hu => exact hu.request

/-- Settles O55: a request is accepted only while none is in flight, and only a row of the tick hands it over. -/
theorem atMostOneResetRequest : Obligations.AtMostOneResetRequest := by
  unfold Obligations.AtMostOneResetRequest
  intro i s t hr hstatus h
  rcases exec_next_cases h with ⟨hi, h⟩ | ⟨-, heffect⟩
  · obtain ⟨-, hregs, -⟩ := exec_tick_frame h
    obtain ⟨-, -, -, u, hu, ht⟩ := tick_cases h
    subst ht
    exact ⟨congrArg _ hregs, hu.request.imp_right fun ⟨hf, hrst⟩ => ⟨hi, hf, hrst⟩⟩
  · cases heffect
    case reset => exact absurd rfl hr
    case hwReset hnone _ => exact absurd hnone hstatus
    case swReset hnone => exact absurd hnone hstatus
    all_goals exact ⟨rfl, .inl rfl⟩

/-! ## The locks (R142) -/

theorem getLsbD_rw0c_of_false {old v : Word} {k : Nat} (h : old.getLsbD k = false) :
    (rw0c old v).getLsbD k = false := by
  rw [rw0c, BitVec.getLsbD_and, h, Bool.false_and]

/-- Settles O56: a write of a lock only clears bits, and a gated write with its lock closed is not among the effects. -/
theorem locksHoldUntilReset : Obligations.LocksHoldUntilReset := by
  unfold Obligations.LocksHoldUntilReset
  intro i s t hr h
  have locked {b : Bool} {p : Prop} (ho : b = true) (hc : b = false) : p := absurd (ho.symm.trans hc) nofun
  rcases exec_next_cases h with ⟨-, h⟩ | ⟨-, heffect⟩
  · obtain ⟨-, hregs, -⟩ := exec_tick_frame h
    rw [hregs]
    exact ⟨(⟨·, rfl⟩), (⟨·, rfl⟩), (⟨·, rfl⟩)⟩
  · cases heffect
    case reset => exact absurd rfl hr
    case wakeupEnRegwen => exact ⟨(⟨getLsbD_rw0c_of_false ·, rfl⟩), (⟨·, rfl⟩), (⟨·, rfl⟩)⟩
    case resetEnRegwen => exact ⟨(⟨·, rfl⟩), (⟨getLsbD_rw0c_of_false ·, rfl⟩), (⟨·, rfl⟩)⟩
    case wakeupEn ho => exact ⟨locked ho, (⟨·, rfl⟩), (⟨·, rfl⟩)⟩
    case resetEn ho => exact ⟨(⟨·, rfl⟩), locked ho, (⟨·, rfl⟩)⟩
    case control ho => exact ⟨(⟨·, rfl⟩), (⟨·, rfl⟩), locked ho⟩
    all_goals exact ⟨(⟨·, rfl⟩), (⟨·, rfl⟩), (⟨·, rfl⟩)⟩

/-! ## The configuration and the records (R50, R75) -/

theorem TableRow.history_prefix {s u : State} (h : TableRow s u) : s.history <+: u.history := by
  cases h
  case otpInit => exact (List.prefix_append ..).trans (List.prefix_append ..)
  case releaseLcReset | lcInit | strap | romCheckDone | activeIdle | activeReset | unimplemented | resetPrep =>
    exact List.prefix_append ..
  all_goals exact List.prefix_rfl

theorem FastMove.history_prefix {s u : State} (h : FastMove s u) : s.history <+: u.history := by
  cases h with
  | shutDown => exact List.prefix_rfl
  | escalate => exact List.prefix_append ..
  | table _ hu => exact hu.history_prefix

theorem Effect.history_prefix {i : Instr} {s t : State} (h : Effect s i t) : s.history <+: t.history := by
  cases h
  case read | report | intrState | intrEnable | intrTest | alert | reset => exact List.prefix_append ..
  all_goals exact List.prefix_rfl

/-- Settles O58: the tick and every other effect append to the records, and none writes the configuration. -/
theorem configurationAndRecordsStand : Obligations.ConfigurationAndRecordsStand := by
  unfold Obligations.ConfigurationAndRecordsStand
  intro i s t h
  rcases exec_next_cases h with ⟨-, h⟩ | ⟨-, heffect⟩
  · obtain ⟨hcfg, -, -, -, hresults, -⟩ := exec_tick_frame h
    obtain ⟨-, -, -, u, hu, ht⟩ := tick_cases h
    subst ht
    exact ⟨hcfg, hu.history_prefix, hresults ▸ List.prefix_rfl⟩
  · refine ⟨?_, heffect.history_prefix, ?_⟩
    · cases heffect <;> rfl
    · cases heffect
      case read => exact List.prefix_append ..
      all_goals exact List.prefix_rfl

end Sys2Proof.Machine

/-! # The invariant of the block (spec 10_state.md) -/

namespace Sys2Proof.Machine

/-! ## Legal words (R22, R81) -/

/-- The word has no bit outside the register's legal mask. -/
def LegalWord (c : Config) (r : Reg) (v : Word) : Prop := v &&& ~~~legal c r = 0#32

theorem legalWord_iff {c : Config} {r : Reg} {v : Word} :
    LegalWord c r v ↔ ∀ k, v.getLsbD k = true → (legal c r).getLsbD k = true := by
  unfold LegalWord
  refine ⟨fun h k hv => ?_, fun h => BitVec.eq_of_getLsbD_eq fun k hk => ?_⟩
  · have hk := BitVec.lt_of_getLsbD hv
    have hbit := congrArg (BitVec.getLsbD · k) h
    simpa [hv, hk] using hbit
  · cases hv : v.getLsbD k
    · simp [hv]
    · simp [hv, h k hv]

theorem legalWord_masked (s : State) (r : Reg) (data : Word) : LegalWord s.cfg r (s.masked r data) := by
  refine legalWord_iff.mpr fun k hk => ?_
  rw [State.masked, BitVec.getLsbD_and, Bool.and_eq_true] at hk
  exact hk.2

theorem legalWord_one {c : Config} {r : Reg} (h : legal c r = 1#32) : LegalWord c r 1#32 := by
  rw [LegalWord, h]
  decide

theorem LegalWord.and {c : Config} {r : Reg} {v : Word} (h : LegalWord c r v) (w : Word) : LegalWord c r (v &&& w) := by
  refine legalWord_iff.mpr fun k hk => legalWord_iff.mp h k ?_
  rw [BitVec.getLsbD_and, Bool.and_eq_true] at hk
  exact hk.1

theorem LegalWord.or {c : Config} {r : Reg} {v w : Word} (hv : LegalWord c r v) (hw : LegalWord c r w) :
    LegalWord c r (v ||| w) := by
  refine legalWord_iff.mpr fun k hk => ?_
  rw [BitVec.getLsbD_or, Bool.or_eq_true] at hk
  exact hk.elim (legalWord_iff.mp hv k) (legalWord_iff.mp hw k)

theorem RegFile.get_set (f : RegFile) (v : Word) (r q : Reg) :
    (f.set v r).get q = f.get q ∨ q = r ∧ (f.set v r).get q = v := by
  by_cases hq : q = r
  · subst hq
    cases q
    case intrTest | alertTest => exact .inl rfl
    all_goals exact .inr ⟨rfl, rfl⟩
  · exact .inl (RegFile.get_set_other f v r q hq)

/-- A register file stays legal when a legal word is stored. -/
theorem BlockInv.legal_setReg {s : State} (h : BlockInv s) {r : Reg} {v : Word} (hv : LegalWord s.cfg r v) :
    ∀ q, q ≠ .resetStatus → (s.setReg r v).reg q &&& ~~~legal s.cfg q = 0#32 := by
  intro q hq
  unfold State.reg State.setReg
  rcases s.regs.get_set v r q with hget | ⟨rfl, hget⟩
  · rw [hget]; exact h.regsLegal q hq
  · rw [hget]; exact hv

theorem BlockInv.legalWord {s : State} (h : BlockInv s) {r : Reg} (hr : r ≠ .resetStatus) :
    LegalWord s.cfg r (s.reg r) :=
  h.regsLegal r hr

/-! ## The constructed state -/

theorem RegFile.legal_init {c : Config} (hc : c.wellFormed = true) (r : Reg) :
    (RegFile.init c).get r &&& ~~~legal c r = 0#32 := by
  obtain ⟨-, -, -, -, -, hcontrol, -⟩ := wellFormed_facts hc
  cases r
  case control => exact hcontrol
  case ctrlCfgRegwen | wakeupEnRegwen | resetEnRegwen => exact legalWord_one rfl
  all_goals exact BitVec.zero_and

theorem blockInv_afterReset {c : Config} (hc : c.wellFormed = true) : BlockInv (State.afterReset c) where
  configured := hc
  regsLegal r _ := RegFile.legal_init hc r
  oneRequest := .inl rfl
  irqFollows := (by decide : false = (0#32 &&& 0#32 != 0#32))
  controlOpen := rfl
  neverSet := ⟨rfl, rfl, rfl⟩
  slowReached := .inl rfl
  fastReached := ⟨nofun, nofun, nofun, nofun, nofun⟩
  slowFirst _ := rfl
  domainNotSlow := nofun
  pendingInFlight _ := rfl
  escalateShown := rfl
  powerDownEscalated := nofun
  romChannels _ _ := ⟨BitVec.getLsbD_zero, BitVec.getLsbD_zero⟩
  holdNeedsControl := nofun
  syncPulse := rfl
  haltedMain := nofun

theorem bootEvidence_of_lowPower {s : State} (h : s.fast = .lowPower) : BootEvidence s := by
  constructor <;> rw [h] <;> intro hlow <;> exact absurd hlow (by decide)

theorem lineDiscipline_of_low {s : State} (h : s.out = Outputs.low) : LineDiscipline s := by
  constructor <;> rw [h] <;> exact nofun

/-- Settles O47: construction gives the reset state, in which nothing is latched, driven or in flight. -/
theorem constructedStateMeetsTheInvariant : Obligations.ConstructedStateMeetsTheInvariant := by
  unfold Obligations.ConstructedStateMeetsTheInvariant
  refine ⟨fun c s h => ?_, rfl⟩
  obtain rfl := eq_afterReset_of_construct_ok h
  have hc : c.wellFormed = true := by
    unfold State.construct at h
    exact ((ite_eq_iff.mp h).resolve_right nofun).1
  exact ⟨blockInv_afterReset hc, bootEvidence_of_lowPower rfl, lineDiscipline_of_low rfl⟩

/-! ## Every operation keeps the invariant -/

/-- What the invariant does not speak of may change freely. -/
theorem BlockInv.congr {s t : State} (h : BlockInv s) (hcfg : t.cfg = s.cfg) (hregs : t.regs = s.regs)
    (hlatch : t.latch = s.latch) (hdomain : t.rst.domain = s.rst.domain) (hslow : t.slow = s.slow)
    (hfast : t.fast = s.fast) (htimer : t.cdcTimerArmed = s.cdcTimerArmed) (hirq : t.out.wakeIrq = s.out.wakeIrq)
    (hhalted : t.halted = s.halted) : BlockInv t := by
  obtain ⟨configured, regsLegal, oneRequest, irqFollows, controlOpen, neverSet, slowReached, fastReached, slowFirst,
    domainNotSlow, pendingInFlight, escalateShown, powerDownEscalated, romChannels, holdNeedsControl, syncPulse,
    haltedMain⟩ := h
  constructor <;> simp only [State.reg, hcfg, hregs, hlatch, hdomain, hslow, hfast, htimer, hirq, hhalted] <;>
    assumption

/-- The invariant after a move of the state machines that leaves `slow = Idle`. -/
theorem BlockInv.move {s t : State} (h : BlockInv s) (hcfg : t.cfg = s.cfg) (hregs : t.regs = s.regs)
    (hlatch : t.latch = s.latch) (htimer : t.cdcTimerArmed = s.cdcTimerArmed)
    (hirq : t.out.wakeIrq = s.out.wakeIrq) (hslow : t.slow = .idle)
    (hfast : t.fast ≠ .fallThrough ∧ t.fast ≠ .nvmIdleChk ∧ t.fast ≠ .lowPowerPrep ∧ t.fast ≠ .nvmShutDown ∧
      t.fast ≠ .invalid)
    (hdomain : t.rst.domain = .none ∨ t.rst.domain = s.rst.domain)
    (hdown : t.fast = .reqPwrDn → t.latch.escalate = true)
    (hhalted : t.halted = true → t.cfg.main = true ∧ t.fast = .reqPwrDn) : BlockInv t where
  configured := hcfg ▸ h.configured
  regsLegal := by simpa only [State.reg, hregs, hcfg] using h.regsLegal
  oneRequest := by simpa only [hregs, hcfg] using h.oneRequest
  irqFollows := by rw [hirq, hregs, h.irqFollows]
  controlOpen := hregs ▸ h.controlOpen
  neverSet := hregs ▸ h.neverSet
  slowReached := .inr hslow
  fastReached := hfast
  slowFirst hreset := absurd (hslow.symm.trans hreset) nofun
  domainNotSlow := by
    rcases hdomain with hd | hd <;> rw [hd]
    · exact nofun
    · exact h.domainNotSlow
  pendingInFlight hnone := hdomain.elim id (·.trans (h.pendingInFlight (hregs ▸ hnone)))
  escalateShown := by rw [hregs, hlatch, h.escalateShown]
  powerDownEscalated := hdown
  romChannels := by simpa only [hcfg, hlatch] using h.romChannels
  holdNeedsControl := by simpa only [hcfg, hlatch] using h.holdNeedsControl
  syncPulse := by rw [hregs, htimer, h.syncPulse]
  haltedMain := hhalted

/-- The fast states that a run reaches are closed under the table, and only an escalation leads to `ReqPwrDn`. -/
theorem TableRow.reached {s u : State} (h : TableRow s u) (hs : s.fast ≠ .fallThrough ∧ s.fast ≠ .nvmIdleChk ∧
    s.fast ≠ .lowPowerPrep ∧ s.fast ≠ .nvmShutDown ∧ s.fast ≠ .invalid) :
    (u.fast ≠ .fallThrough ∧ u.fast ≠ .nvmIdleChk ∧ u.fast ≠ .lowPowerPrep ∧ u.fast ≠ .nvmShutDown ∧
      u.fast ≠ .invalid) ∧ (u.fast = .reqPwrDn → s.fast = .reqPwrDn) := by
  cases h
  case stay | activeIdle => exact ⟨hs, id⟩
  all_goals exact ⟨⟨nofun, nofun, nofun, nofun, nofun⟩, nofun⟩

theorem TableRow.domain {s u : State} (h : TableRow s u) :
    u.rst.domain = .none ∨ u.rst.domain = s.rst.domain := by
  rcases h.request with hrst | ⟨-, hnone, -⟩
  · exact .inr (congrArg _ hrst)
  · exact .inl hnone

theorem BlockInv.exec_tick {s t : State} (h : BlockInv s) (hx : exec .tick s = .next t) : BlockInv t := by
  obtain ⟨⟨hrunning, -⟩, -, -, u, hu, ht⟩ := tick_cases hx
  obtain ⟨hcfg, hregs, hlatch, htimer, -, hirq⟩ := hu.frame
  subst ht
  cases hu with
  | shutDown he =>
    exact h.move hcfg hregs hlatch htimer hirq rfl h.fastReached (.inr rfl) h.powerDownEscalated h.haltedMain
  | escalate he =>
    exact h.move hcfg hregs hlatch htimer hirq rfl ⟨nofun, nofun, nofun, nofun, nofun⟩ (.inr rfl) (fun _ => he)
      (⟨·, rfl⟩)
  | table he hu =>
    obtain ⟨-, -, -, -, -, -, hhalted, -⟩ := hu.frame
    obtain ⟨hfast, hdown⟩ := hu.reached h.fastReached
    exact h.move hcfg hregs hlatch htimer hirq rfl hfast hu.domain
      (fun hd => (congrArg _ hlatch).trans (h.powerDownEscalated (hdown hd)))
      (fun hh => absurd ((hhalted.trans hrunning).symm.trans hh) nofun)

theorem shiftLeft_one_ne_zero {k : Nat} (h : k < 32) : 1#32 <<< k ≠ 0#32 := by
  intro hzero
  have hbit := congrArg (BitVec.getLsbD · k) hzero
  simp [h] at hbit

/-- A request accepted while none is in flight sets the one bit of RESET_STATUS (R35, R155). -/
theorem BlockInv.acceptReset {s : State} (h : BlockInv s) {k : Nat} (hk : k ≤ s.cfg.resetCount)
    (hnone : s.regs.resetStatus = 0#32) (cause : ResetCause) : BlockInv (s.acceptReset k cause) := by
  obtain ⟨hcount, -⟩ := wellFormed_facts h.configured
  have hstatus : (s.acceptReset k cause).regs.resetStatus = 1#32 <<< k := by
    show s.regs.resetStatus ||| 1#32 <<< k = _
    rw [hnone, BitVec.zero_or]
  exact { h with
    regsLegal := fun r hr => by
      show (s.regs.set _ .resetStatus).get r &&& _ = _
      rw [RegFile.get_set_other _ _ _ _ hr]
      exact h.regsLegal r hr
    oneRequest := .inr ⟨k, hk, hstatus⟩
    domainNotSlow := nofun
    pendingInFlight := fun hzero => absurd (hstatus.symm.trans hzero) (shiftLeft_one_ne_zero (by omega)) }

/-- Latching a ROM channel sets no bit at or above `rom_count` (R40). -/
theorem getLsbD_or_shiftLeft_one {b : BitVec 8} {i k : Nat} (hb : b.getLsbD k = false) (h : i ≠ k) :
    (b ||| 1#8 <<< i).getLsbD k = false := by
  rw [BitVec.getLsbD_or, hb, Bool.false_or, BitVec.getLsbD_shiftLeft, BitVec.getLsbD_one]
  simp only [Bool.and_eq_false_iff, decide_eq_false_iff_not, Bool.not_eq_false', decide_eq_true_eq]
  omega

theorem Effect.keeps_blockInv {i : Instr} {s t : State} (h : BlockInv s) (hx : Effect s i t) : BlockInv t := by
  cases hx
  case read | nothing | report | alert => exact h.congr rfl rfl rfl rfl rfl rfl rfl rfl rfl
  case intrState data =>
    exact { h with regsLegal := h.legal_setReg ((h.legalWord (by decide)).and _), irqFollows := rfl }
  case intrEnable data =>
    exact { h with regsLegal := h.legal_setReg (legalWord_masked ..), irqFollows := rfl }
  case intrTest data =>
    exact { h with
      regsLegal := h.legal_setReg ((h.legalWord (by decide)).or (legalWord_masked s .intrTest data))
      irqFollows := rfl }
  case control | wakeupEn | resetEn | captureDis =>
    exact { h with regsLegal := h.legal_setReg (legalWord_masked ..) }
  case wakeupEnRegwen | resetEnRegwen =>
    exact { h with regsLegal := h.legal_setReg ((h.legalWord (by decide)).and _) }
  case wakeInfo =>
    obtain ⟨hstatus, hinfo, hfault⟩ := h.neverSet
    exact { h with
      regsLegal := h.legal_setReg ((h.legalWord (by decide)).and _)
      neverSet := ⟨hstatus, (congrArg (rw1c · _) hinfo).trans BitVec.zero_and, hfault⟩ }
  case cdcSync =>
    exact { h with
      regsLegal := h.legal_setReg ((h.legalWord (by decide)).or (legalWord_one rfl))
      syncPulse := by
        show s.regs.cfgCdcSync ||| 1#32 = 1#32
        rw [h.syncPulse]
        split <;> rfl }
  case timerExpire =>
    exact { h with
      regsLegal := h.legal_setReg ((h.legalWord (by decide)).and _)
      syncPulse := by
        show s.regs.cfgCdcSync &&& ~~~1#32 = 0#32
        rw [h.syncPulse]
        split <;> rfl }
  case romGood index hi =>
    exact { h with
      romChannels := fun k hk => (h.romChannels k hk).imp_left
        (getLsbD_or_shiftLeft_one · (Nat.ne_of_lt (Nat.lt_of_lt_of_le hi hk))) }
  case romDone index hi =>
    exact { h with
      romChannels := fun k hk => (h.romChannels k hk).imp_right
        (getLsbD_or_shiftLeft_one · (Nat.ne_of_lt (Nat.lt_of_lt_of_le hi hk))) }
  case hwReset index cause hi hnone _ =>
    have hlatched : BlockInv s.latchHwReset := { h with }
    exact hlatched.acceptReset (Nat.le_of_lt hi) hnone cause
  case swReset hnone =>
    have hlatched : BlockInv s.latchSwReset := { h with }
    exact hlatched.acceptReset (Nat.le_refl _) hnone _
  case lcRsp | otpRsp => exact { h with }
  case escalate =>
    exact { h with
      regsLegal := h.legal_setReg (r := .escalateResetStatus) (legalWord_one rfl)
      escalateShown := rfl
      powerDownEscalated := fun _ => rfl }
  case holdFetch hcontrol => exact { h with holdNeedsControl := fun _ => hcontrol }
  case reset => exact (blockInv_afterReset h.configured).congr rfl rfl rfl rfl rfl rfl rfl rfl rfl

/-- Settles O46: the tick and every other effect keep the invariant, which says nothing of the model's own fields. -/
theorem stepKeepsTheInvariant : Obligations.StepKeepsTheInvariant := by
  unfold Obligations.StepKeepsTheInvariant
  intro s t hs h
  refine step_keeps (P := BlockInv) (fun s ds n hs => ?own) (fun i s t hs h => ?keep) hs h
  case own => exact hs.congr rfl rfl rfl rfl rfl rfl rfl rfl rfl
  case keep =>
    rcases exec_next_cases h with ⟨-, h⟩ | ⟨-, heffect⟩
    · exact hs.exec_tick h
    · exact heffect.keeps_blockInv hs

end Sys2Proof.Machine

/-! # The boot evidence and the request lines (spec 42_fsm_tick.md section 2) -/

namespace Sys2Proof.Machine

/-! ## Boot evidence (R204) -/

/-- The evidence of a later state, from that of an earlier one and what the row between them waited for. -/
theorem BootEvidence.advance {s t : State} (h : BootEvidence s) (hcfg : t.cfg = s.cfg) (hlatch : t.latch = s.latch)
    (hotp : 4 ≤ t.fast.number → t.fast.number ≤ 16 →
      (4 ≤ s.fast.number ∧ s.fast.number ≤ 16) ∨ s.latch.otpDone = true)
    (hlc : 5 ≤ t.fast.number → t.fast.number ≤ 16 →
      (5 ≤ s.fast.number ∧ s.fast.number ≤ 16) ∨ s.latch.lcDone = true)
    (hdone : 8 ≤ t.fast.number → t.fast.number ≤ 16 → (8 ≤ s.fast.number ∧ s.fast.number ≤ 16) ∨
      ∀ k, k < s.cfg.romCount → s.latch.romDone.getLsbD k = true)
    (hgood : 9 ≤ t.fast.number → t.fast.number ≤ 16 → (9 ≤ s.fast.number ∧ s.fast.number ≤ 16) ∨
      ∀ k, k < s.cfg.romCount → s.latch.romGood.getLsbD k = true) : BootEvidence t where
  otp h1 h2 := hlatch ▸ (hotp h1 h2).elim (fun hs => h.otp hs.1 hs.2) id
  lc h1 h2 := hlatch ▸ (hlc h1 h2).elim (fun hs => h.lc hs.1 hs.2) id
  romDone h1 h2 := hlatch ▸ hcfg ▸ (hdone h1 h2).elim (fun hs => h.romDone hs.1 hs.2) id
  romGood h1 h2 := hlatch ▸ hcfg ▸ (hgood h1 h2).elim (fun hs => h.romGood hs.1 hs.2) id

/-- A row passes a handshake or a ROM check only with its response (R187, R188, R191, R192). -/
theorem TableRow.keeps_bootEvidence {s u : State} (hc : s.cfg.romCount ≤ 8) (h : BootEvidence s) (hu : TableRow s u) :
    BootEvidence u := by
  obtain ⟨-, -, hcfg, -, hlatch, -⟩ := hu.frame
  have stood {f : FastState} {n : Nat} {p : Prop} (hf : s.fast = f) (hn : n ≤ f.number ∧ f.number ≤ 16)
      {a b : Prop} (_ : a) (_ : b) : (n ≤ s.fast.number ∧ s.fast.number ≤ 16) ∨ p := .inl (hf ▸ hn)
  cases hu
  case stay | activeIdle => exact ⟨h.otp, h.lc, h.romDone, h.romGood⟩
  case lowPower | enableClocks | releaseLcReset => exact h.advance hcfg hlatch nofun nofun nofun nofun
  case otpInit hf hd => exact h.advance hcfg hlatch (fun _ _ => .inr hd) nofun nofun nofun
  case lcInit hf hd => exact h.advance hcfg hlatch (stood hf (by decide)) (fun _ _ => .inr hd) nofun nofun
  case ackPwrUp hf | strap hf =>
    exact h.advance hcfg hlatch (stood hf (by decide)) (stood hf (by decide)) nofun nofun
  case romCheckDone hf hd =>
    exact h.advance hcfg hlatch (stood hf (by decide)) (stood hf (by decide))
      (fun _ _ => .inr ((allRoms_iff hc _).mp hd)) nofun
  case romCheckGood hf hg _ =>
    exact h.advance hcfg hlatch (stood hf (by decide)) (stood hf (by decide)) (stood hf (by decide))
      (fun _ _ => .inr ((allRoms_iff hc _).mp hg))
  case unimplemented hf =>
    rcases hf with hf | hf | hf | hf <;>
      exact h.advance hcfg hlatch (stood hf (by decide)) (stood hf (by decide)) (stood hf (by decide))
        (stood hf (by decide))
  case activeReset hf _ | disClocks hf | resetPrepNone hf _ | resetPrep hf _ =>
    exact h.advance hcfg hlatch (stood hf (by decide)) (stood hf (by decide)) (stood hf (by decide))
      (stood hf (by decide))

theorem BootEvidence.exec_tick {s t : State} (h : BootEvidence s) (hx : exec .tick s = .next t) :
    BootEvidence t := by
  obtain ⟨⟨-, hconfigured⟩, -, -, u, hu, ht⟩ := tick_cases hx
  obtain ⟨-, -, -, hcount, -⟩ := wellFormed_facts hconfigured
  subst ht
  have hevidence : BootEvidence u := by
    cases hu with
    | shutDown => exact h
    | escalate =>
      have beyond {p : Prop} (hle : FastState.reqPwrDn.number ≤ 16) : p := absurd hle (by decide)
      exact ⟨fun _ => beyond, fun _ => beyond, fun _ => beyond, fun _ => beyond⟩
    | table _ hu => exact hu.keeps_bootEvidence hcount h
  exact ⟨hevidence.otp, hevidence.lc, hevidence.romDone, hevidence.romGood⟩

/-- Outside a tick the fast machine stands, and the responses only come in. -/
theorem Effect.keeps_bootEvidence {i : Instr} {s t : State} (h : BootEvidence s) (hx : Effect s i t) :
    BootEvidence t := by
  have latched {a b : BitVec 8} {k : Nat} (ha : a.getLsbD k = true) : (a ||| b).getLsbD k = true := by
    rw [BitVec.getLsbD_or, ha, Bool.true_or]
  cases hx
  case reset => exact bootEvidence_of_lowPower rfl
  case otpRsp => exact { h with otp := fun _ _ => rfl }
  case lcRsp => exact { h with lc := fun _ _ => rfl }
  case romDone => exact { h with romDone := fun h1 h2 k hk => latched (h.romDone h1 h2 k hk) }
  case romGood => exact { h with romGood := fun h1 h2 k hk => latched (h.romGood h1 h2 k hk) }
  all_goals exact ⟨h.otp, h.lc, h.romDone, h.romGood⟩

/-- Settles O49: each row of the tick that passes a handshake or a ROM check needs its response, which is latched until
reset. -/
theorem stepKeepsBootEvidence : Obligations.StepKeepsBootEvidence := by
  unfold Obligations.StepKeepsBootEvidence
  intro s t hs h
  refine step_keeps (P := BootEvidence) (fun s ds n hs => ?own) (fun i s t hs h => ?keep) hs h
  case own => exact ⟨hs.otp, hs.lc, hs.romDone, hs.romGood⟩
  case keep =>
    rcases exec_next_cases h with ⟨-, h⟩ | ⟨-, heffect⟩
    · exact hs.exec_tick h
    · exact heffect.keeps_bootEvidence hs

/-! ## The discipline of the request lines (92 D25) -/

theorem LineDiscipline.congr {s t : State} (h : LineDiscipline s) (hfast : t.fast = s.fast)
    (hotp : t.out.otpReq = s.out.otpReq) (hlc : t.out.lcReq = s.out.lcReq) (hstrap : t.out.strap = s.out.strap)
    (hcpu : t.out.cpuEn = s.out.cpuEn) : LineDiscipline t where
  otpReq := by simpa only [hfast, hotp] using h.otpReq
  lcReq := by simpa only [hfast, hlc] using h.lcReq
  strap := by simpa only [hfast, hstrap] using h.strap
  cpuEn := by simpa only [hfast, hcpu] using h.cpuEn

/-- A move to a new state keeps the discipline if each line that is high after it is the new state's own, or is left
high from a state that does not assert it, which the discipline excludes. -/
theorem LineDiscipline.advance {s u : State} (h : LineDiscipline s) (hdown : s.fast ≠ .reqPwrDn)
    (hotp : u.out.otpReq = true → u.fast = .otpInit ∨ s.out.otpReq = true ∧ s.fast ≠ .otpInit)
    (hlc : u.out.lcReq = true → u.fast = .lcInit ∨ s.out.lcReq = true ∧ s.fast ≠ .lcInit)
    (hstrap : u.out.strap = true → u.fast = .romCheckDone ∨ s.out.strap = true ∧ s.fast ≠ .romCheckDone)
    (hcpu : u.out.cpuEn = true → u.fast = .active ∨ s.out.cpuEn = true ∧ s.fast ≠ .active) : LineDiscipline u where
  otpReq hline := .inl ((hotp hline).resolve_right fun ⟨hs, hf⟩ => (h.otpReq hs).elim hf hdown)
  lcReq hline := .inl ((hlc hline).resolve_right fun ⟨hs, hf⟩ => (h.lcReq hs).elim hf hdown)
  strap hline := .inl ((hstrap hline).resolve_right fun ⟨hs, hf⟩ => (h.strap hs).elim hf hdown)
  cpuEn hline := .inl ((hcpu hline).resolve_right fun ⟨hs, hf⟩ => (h.cpuEn hs).elim hf hdown)

/-- A row that leaves a state drops the line which that state asserts, and one that asserts a line enters its state. -/
theorem TableRow.keeps_lineDiscipline {s u : State} (h : LineDiscipline s) (hu : TableRow s u) : LineDiscipline u := by
  cases hu
  case stay => exact h
  case activeIdle hf _ => exact { h with cpuEn := fun _ => .inl hf }
  case unimplemented hf =>
    rcases hf with hf | hf | hf | hf <;> refine h.advance ?_ ?_ ?_ ?_ ?_ <;> simp [hf]
  all_goals
    rename s.fast = _ => hf
    refine h.advance ?_ ?_ ?_ ?_ ?_ <;> simp [hf, Outputs.set]

theorem LineDiscipline.exec_tick {s t : State} (h : LineDiscipline s) (hx : exec .tick s = .next t) :
    LineDiscipline t := by
  obtain ⟨-, -, -, u, hu, ht⟩ := tick_cases hx
  subst ht
  have hdiscipline : LineDiscipline u := by
    cases hu with
    | shutDown => exact h
    | escalate => exact ⟨fun _ => .inr rfl, fun _ => .inr rfl, fun _ => .inr rfl, fun _ => .inr rfl⟩
    | table _ hu => exact hu.keeps_lineDiscipline h
  exact hdiscipline.congr rfl rfl rfl rfl rfl

/-- R270: component reset lowers every line. -/
theorem out_of_exec_reset {s t : State} (h : exec .reset s = .next t) : t.out = Outputs.low := by
  obtain rfl := Host.Outcome.next.inj ((execReset_of_ready (exec_ready h)).symm.trans h)
  rfl

/-- Settles O50: the tick's rows keep the discipline, RESET drops every line, and nothing else drives one. -/
theorem stepKeepsLineDiscipline : Obligations.StepKeepsLineDiscipline := by
  unfold Obligations.StepKeepsLineDiscipline
  intro s t hs h
  refine step_keeps (P := LineDiscipline) (fun s ds n hs => ?own) (fun i s t hs h => ?keep) hs h
  case own => exact hs.congr rfl rfl rfl rfl rfl
  case keep =>
    rcases exec_next_cases h with ⟨-, h⟩ | ⟨-, heffect⟩
    · exact hs.exec_tick h
    · by_cases hr : i = .reset
      · subst hr
        exact lineDiscipline_of_low (out_of_exec_reset h)
      · obtain ⟨-, hfast, -, hotp, hlc, hcpu, hstrap⟩ := heffect.spares_fsm hr
        exact hs.congr hfast hotp hlc hstrap hcpu

end Sys2Proof.Machine

/-! # Construction, reset, and when there is no step (spec 20_memory.md, 60_exceptions.md, 70_reset_and_hazards.md) -/

namespace Sys2Proof.Machine

/-! ## Construction and component reset -/

/-- Settles O7: construction is the check of R8 and the table of reset values. -/
theorem constructedStateIsTheResetState : Obligations.ConstructedStateIsTheResetState := by
  unfold Obligations.ConstructedStateIsTheResetState
  refine ⟨fun c hc => ?refused, fun c hc => ?built, rfl⟩
  case refused => rw [State.construct, hc, if_neg nofun]
  case built =>
    refine ⟨State.afterReset c, by rw [State.construct, hc, if_pos rfl], rfl, fun r => ?reg, rfl, rfl, rfl, rfl, rfl,
      rfl, fun l => ?out, rfl, rfl, rfl⟩
    case reg => cases r <;> rfl
    case out => cases l <;> rfl

/-- Settles O8: component reset on a ready block, with the model's free value as the cause. -/
theorem componentResetRestoresEveryField : Obligations.ComponentResetRestoresEveryField :=
  ⟨rfl, fun _ hs => ⟨_, execReset_of_ready hs⟩⟩

/-! ## The step -/

/-- Settles O5: the two outcomes of decoding the delivered word. -/
theorem stepRunsTheDeliveredOperation : Obligations.StepRunsTheDeliveredOperation := by
  unfold Obligations.StepRunsTheDeliveredOperation
  intro s w rest hd
  exact ⟨fun i hi => by simp only [step, hd, hi], fun e he => by simp only [step, hd, he]⟩

/-- With nothing delivered the step is the move of an agent of the block's own (log 3). -/
theorem step_of_ownAgent {s u : State} {i : Instr} (hd : s.deliveries = []) (ho : ownAgent s = some (i, u)) :
    step s = exec i u := by
  simp only [step, hd, ho]

theorem step_of_quiet {s : State} (hd : s.deliveries = []) (ho : ownAgent s = none) : step s = running s (.next s) := by
  simp only [step, hd, ho]

theorem ownAgent_of_tick {s : State} (hp : s.tickPending = true) (ha : s.cdcTimerArmed = false) :
    ownAgent s = some (.tick, s) := by
  simp only [ownAgent, hp, ha]

/-- Settles O6: the four cases of which of the block's own agents is enabled. -/
theorem ownAgentsMoveWhenNothingIsDelivered : Obligations.OwnAgentsMoveWhenNothingIsDelivered := by
  unfold Obligations.OwnAgentsMoveWhenNothingIsDelivered
  refine fun s hd => ⟨fun hp ha => ?tick, fun hp ha => ?timer, fun hp ha => ?both, fun hp ha hs => ?quiet⟩
  case tick => exact step_of_ownAgent hd (ownAgent_of_tick hp ha)
  case timer => exact step_of_ownAgent hd (by simp only [ownAgent, hp, ha])
  case both =>
    refine ⟨if Config.freeTimerFirst s.freeCount then .timerExpire else .tick, ?_,
      step_of_ownAgent hd (by simp only [ownAgent, hp, ha])⟩
    split
    · exact .inr rfl
    · exact .inl rfl
  case quiet => rw [step_of_quiet hd (by simp only [ownAgent, hp, ha]), running_of_ready hs]

/-- The step of a block is one operation of it, but for the model's own fields, or a wait. -/
theorem step_next_ready {s t : State} (h : step s = .next t) : s.Ready := by
  rcases step_next_iff.mp h with ⟨w, rest, i, -, -, hx⟩ | ⟨-, i, u, ho, hx⟩ | ⟨-, -, hr, -⟩
  · have hready := exec_ready hx
    exact hready
  · obtain ⟨-, n, rfl⟩ := ownAgent_some ho
    have hready := exec_ready hx
    exact hready
  · exact hr

/-- Settles O9: every operation starts from the guard, and every step that moves found it open. -/
theorem noStepWhenHaltedOrIllFormed : Obligations.NoStepWhenHaltedOrIllFormed := by
  unfold Obligations.NoStepWhenHaltedOrIllFormed
  refine fun s => ⟨fun hh => ⟨fun i => ?haltedExec, fun t ht => ?haltedStep⟩,
    fun hh hc => ⟨fun i => ?illFormedExec, fun t ht => ?illFormedStep⟩⟩
  case haltedExec =>
    obtain ⟨k, hk⟩ := exec_guarded i s
    rw [hk, running_of_halted hh]
  case haltedStep => exact absurd ((step_next_ready ht).1.symm.trans hh) nofun
  case illFormedExec =>
    obtain ⟨k, hk⟩ := exec_guarded i s
    rw [hk, running_of_illFormed hh hc]
  case illFormedStep => exact absurd ((step_next_ready ht).2.symm.trans hc) nofun

/-! ## Model faults (R245) -/

theorem fastStep_error_iff {s : State} {f : Fault} :
    fastStep s = .error f ↔ s.fast = .invalid ∧ f = .unreachableFastState := by
  unfold fastStep
  cases hf : s.fast <;> simp [eq_comm]

theorem fastPass_fault_iff {c : Bool} {s : State} {f : Fault} : fastPass c s = .fault f ↔
    s.latch.escalate = false ∧ s.fast = .invalid ∧ f = .unreachableFastState := by
  rw [← fastStep_error_iff]
  unfold fastPass
  cases s.latch.escalate
  · cases fastStep s <;> simp
  · simp

/-- R181, R203: the only faults of a tick are those of the states that no run reaches. -/
theorem exec_tick_fault_iff {s : State} {f : Fault} : exec .tick s = .fault f ↔ s.Ready ∧ s.tickPending = true ∧
    ((s.slow ≠ .reset ∧ s.slow ≠ .idle ∧ f = .unreachableSlowState) ∨
     ((s.slow = .reset ∨ s.slow = .idle) ∧ s.latch.escalate = false ∧ s.fast = .invalid ∧
       f = .unreachableFastState)) := by
  show execTick s = .fault f ↔ _
  unfold execTick tickPass
  rw [running_fault_iff]
  refine and_congr_right fun _ => ?_
  cases s.tickPending
  · simp
  · cases hs : s.slow
    case reset | idle => simp [slowStep, fastPass_fault_iff]
    all_goals simpa [slowStep] using eq_comm

theorem running_next_ne_fault {s t : State} {f : Fault} : running s (.next t) ≠ .fault f :=
  fun h => nomatch (running_fault_iff.mp h).2

theorem deliver_next_ne_fault {p : Port} {index : BitVec 8} {s t : State} {f : Fault} :
    deliver p index s (.next t) ≠ .fault f := by
  intro h
  obtain ⟨-, h⟩ := running_fault_iff.mp h
  split at h <;> cases h

/-- No operation but the tick faults. -/
theorem eq_tick_of_exec_fault {i : Instr} {s : State} {f : Fault} (h : exec i s = .fault f) : i = .tick := by
  cases i
  case tick => rfl
  case lineRstReq =>
    obtain ⟨-, h⟩ := running_fault_iff.mp h
    repeat' split at h
    all_goals cases h
  case timerExpire =>
    obtain ⟨-, h⟩ := running_fault_iff.mp h
    split at h <;> cases h
  case lineRomGood | lineRomDone | lineWakeup | lineSwRstReq | lineLcRsp | lineOtpRsp | lineEscalate | lineHoldFetch =>
    exact absurd h deliver_next_ne_fault
  all_goals exact absurd h running_next_ne_fault

theorem BlockInv.exec_ne_fault {s : State} (h : BlockInv s) (f : Fault) (i : Instr) : exec i s ≠ .fault f := by
  intro hx
  obtain rfl := eq_tick_of_exec_fault hx
  obtain ⟨-, -, ⟨hreset, hidle, -⟩ | ⟨-, -, hinvalid, -⟩⟩ := exec_tick_fault_iff.mp hx
  · exact h.slowReached.elim hreset hidle
  · obtain ⟨-, -, -, -, hne⟩ := h.fastReached
    exact hne hinvalid

/-- Settles O48: only the tick faults, in states that the invariant excludes. -/
theorem noFaultUnderTheInvariant : Obligations.NoFaultUnderTheInvariant := by
  unfold Obligations.NoFaultUnderTheInvariant
  refine fun s f hs => ⟨fun h => ?step, hs.exec_ne_fault f⟩
  have own (ds : List OpWord) (n : Nat) : BlockInv { s with deliveries := ds, freeCount := n } :=
    hs.congr rfl rfl rfl rfl rfl rfl rfl rfl rfl
  unfold step at h
  split at h
  · split at h
    · exact (own _ _).exec_ne_fault f _ h
    · cases h
  · split at h
    · rename_i ho
      obtain ⟨-, n, rfl⟩ := ownAgent_some ho
      exact (own _ n).exec_ne_fault f _ h
    · exact running_next_ne_fault h

/-- Settles O43: the two faults of a tick, each with the state that raises it. -/
theorem unreachableStatesFault : Obligations.UnreachableStatesFault := by
  unfold Obligations.UnreachableStatesFault
  exact ⟨fun s hr hp hreset hidle => exec_tick_fault_iff.mpr ⟨hr, hp, .inl ⟨hreset, hidle, rfl⟩⟩,
    fun s hr hp hslow he hf => exec_tick_fault_iff.mpr ⟨hr, hp, .inr ⟨hslow, he, hf, rfl⟩⟩⟩

/-! ## When the block's own agents are refused (R66) -/

theorem tickPass_ne_refused {s : State} {r : Refusal} : tickPass s ≠ .refused r := by
  intro h
  unfold tickPass fastPass at h
  repeat' split at h
  all_goals cases h

/-- Settles O34: the tick's own guard is the pending tick, and no path behind it refuses. -/
theorem tickNeedsAPendingTick : Obligations.TickNeedsAPendingTick := by
  unfold Obligations.TickNeedsAPendingTick
  have guard {s : State} (hs : s.Ready) :
      exec .tick s = if s.tickPending then tickPass s else .refused .tickNotPending := running_of_ready hs
  refine ⟨rfl, fun s hs hp => ?_, fun s r hs hp => ?_⟩
  · rw [guard hs, hp, if_neg nofun]
  · rw [guard hs, hp, if_pos rfl]
    exact tickPass_ne_refused

/-- Settles O45: the timer's guard, and the word with SYNC cleared told bit by bit. -/
theorem settleTimerClearsSync : Obligations.SettleTimerClearsSync := by
  unfold Obligations.SettleTimerClearsSync
  refine ⟨rfl, fun s v hs => ⟨fun ha h0 hk => ?armed, fun ha => ?unarmed⟩⟩
  case armed =>
    have hv : v = s.regs.cfgCdcSync &&& ~~~1#32 := by
      refine BitVec.eq_of_getLsbD_eq fun k hlt => ?_
      rcases Nat.eq_zero_or_pos k with rfl | hpos
      · rw [h0, BitVec.getLsbD_and]
        exact (Bool.and_false _).symm
      · rw [hk k hpos, BitVec.getLsbD_and, BitVec.getLsbD_not, BitVec.getLsbD_one]
        simp [hlt, Nat.ne_of_gt hpos]
    rw [hv, exec, execTimerExpire, running_of_ready hs, ha, if_pos rfl]
    rfl
  case unarmed => rw [exec, execTimerExpire, running_of_ready hs, ha, if_neg nofun]

end Sys2Proof.Machine

/-! # The FSM tick: escalation, `Active` and the reset sequence (spec 42_fsm_tick.md) -/

namespace Sys2Proof.Machine

/-! ## A tick takes its move -/

/-- R180: the tick is the fast evaluation, after a slow step that ends `Idle`. -/
theorem exec_tick_of_fastPass {s t : State} (hr : s.Ready) (hp : s.tickPending = true)
    (hs : s.slow = .reset ∨ s.slow = .idle)
    (h : fastPass (s.slow == .reset) { s with slow := .idle, tickPending := false } = .next t) :
    exec .tick s = .next t := by
  refine execTick_next_iff.mpr ⟨hr, hp, hs.imp (fun hs => ⟨hs, ?_⟩) (fun hs => ⟨hs, ?_⟩)⟩
  · rwa [hs, beq_self_eq_true] at h
  · have hidle : (s.slow == .reset) = false := by rw [hs]; rfl
    rwa [hidle, ← hs] at h

/-- The tick takes the move of the fast evaluation; with `tick_cases`, the moves are exactly what a tick does. -/
theorem exec_tick_of_move {s u : State} (hr : s.Ready) (hp : s.tickPending = true)
    (hs : s.slow = .reset ∨ s.slow = .idle) (hu : FastMove s u) :
    exec .tick s = .next { u with slow := .idle, tickPending := u.fast != s.fast || s.slow == .reset } := by
  cases hu with
  | table he hu => exact exec_tick_of_row hr hp hs he hu
  | shutDown he hf =>
    refine exec_tick_of_fastPass hr hp hs (fastPass_next_iff.mpr (.inl ⟨he, ?_⟩))
    rw [escalateStep_eq, if_pos hf, rearmIf_eq, bne_self_eq_false]
    rfl
  | escalate he hf =>
    refine exec_tick_of_fastPass hr hp hs (fastPass_next_iff.mpr (.inl ⟨he, ?_⟩))
    rw [escalateStep_eq, if_neg hf, rearmIf_eq, bne_iff_ne.mpr (Ne.symm hf), hr.1, Bool.or_false]
    rfl

/-- A row that stays in its state arms no tick. -/
theorem State.TableTickDue.exec_tick_stays {s u : State} (h : s.TableTickDue) (hu : TableRow s u)
    (hf : u.fast = s.fast) : exec .tick s = .next { u with tickPending := false } := by
  obtain ⟨hr, hp, hi, he⟩ := h
  obtain ⟨hslow, -⟩ := hu.frame
  rw [exec_tick_of_row hr hp (.inr hi) he hu, hf, hi, bne_self_eq_false, ← hi, ← hslow, hslow, hi]
  rfl

/-- Settles O44: the escalation's move, whose next tick is armed because the state changes. -/
theorem escalationOverridesEveryState : Obligations.EscalationOverridesEveryState := by
  unfold Obligations.EscalationOverridesEveryState
  intro s hr hp hs he hf
  have htick := exec_tick_of_move hr hp hs (.escalate he hf)
  have hmoves : (FastState.reqPwrDn != s.fast) = true := bne_iff_ne.mpr (Ne.symm hf)
  refine ⟨fun hmain => ?_, fun hmain => ?_⟩
  · rw [htick]
    simp [hmoves, hmain, hr.1, hp]
  · rw [htick]
    simp [hmoves, hmain, hp]

/-- Settles O42: `ResetWait` stays by its row; `ReqPwrDn` does so with an escalation or without. -/
theorem terminalStatesStay : Obligations.TerminalStatesStay := by
  unfold Obligations.TerminalStatesStay
  intro s hr hp hi hterminal
  have hmove : FastMove s s := by
    rcases hterminal with ⟨hf, he⟩ | hf
    · exact .table he (.stay (.inr (.inl hf)))
    · cases he : s.latch.escalate
      · exact .table he (.stay (.inr (.inr hf)))
      · exact .shutDown he hf
  rw [exec_tick_of_move hr hp (.inr hi) hmove, ← hi]
  simp [hi]

/-- Settles O39: the two rows of `Active`. -/
theorem activeEnablesTheCpuUntilAReset : Obligations.ActiveEnablesTheCpuUntilAReset := by
  unfold Obligations.ActiveEnablesTheCpuUntilAReset
  refine fun s h hf => ⟨fun hnone => ?_, fun hsome => ?_⟩
  · rw [h.exec_tick_stays (.activeIdle hf hnone) rfl, setOut_true]
    rfl
  · rw [h.exec_tick_moves (.activeReset hf hsome) (by simp [hf]), setOut_false]
    rfl

/-- Settles O40: the four states share their row. -/
theorem unimplementedStatesFallThrough : Obligations.UnimplementedStatesFallThrough := by
  unfold Obligations.UnimplementedStatesFallThrough
  intro s h hf
  exact h.exec_tick_moves (.unimplemented hf) (by rcases hf with hf | hf | hf | hf <;> simp [hf])

/-- Settles O41: the two rows of `ResetPrep`, with the model's free value as the cause. -/
theorem resetPrepDispatchesTheRequest : Obligations.ResetPrepDispatchesTheRequest := by
  unfold Obligations.ResetPrepDispatchesTheRequest
  refine fun s h hf => ⟨fun hsome => ?_, fun hnone => ?_⟩
  · exact ⟨_, h.exec_tick_moves (.resetPrep hf hsome) (by simp [hf])⟩
  · exact h.exec_tick_moves (.resetPrepNone hf hnone) (by simp [hf])

end Sys2Proof.Machine

/-! # Runs of the scheduler: the boot and the reset sequence (spec 42_fsm_tick.md section 3) -/

namespace Sys2Proof.Machine

/-! ## Runs, step by step -/

theorem run_of_step {n : Nat} {s t : State} (h : step s = .next t) : core.run (n + 1) s = core.run n t := by
  have hcore : core.step s = .next t := h
  simp only [Host.Core.run, hcore]

/-- A chain of steps is a run of each of its lengths. -/
theorem run_of_chain {N : Nat} {chain : Nat → State} (h : ∀ n, n < N → step (chain n) = .next (chain (n + 1))) :
    ∀ n, n ≤ N → core.run n (chain 0) = .next (chain n) := by
  intro n
  induction n generalizing chain N with
  | zero => exact fun _ => rfl
  | succ n ih =>
    intro hn
    rw [run_of_step (h 0 (by omega))]
    exact ih (N := N - 1) (chain := fun k => chain (k + 1)) (fun k hk => h (k + 1) (by omega)) (by omega)

/-- Nothing is delivered and the timer is not armed, so only the scheduler can move. -/
def State.OnlyScheduler (s : State) : Prop := s.deliveries = [] ∧ s.cdcTimerArmed = false

theorem State.OnlyScheduler.step_eq {s : State} (h : s.OnlyScheduler) (hp : s.tickPending = true) :
    step s = exec .tick s :=
  step_of_ownAgent h.1 (ownAgent_of_tick hp h.2)

theorem State.OnlyScheduler.step_moves {s u : State} (h : s.OnlyScheduler) (hdue : s.TableTickDue)
    (hu : TableRow s u) (hm : u.fast ≠ s.fast) : step s = .next u :=
  (h.step_eq hdue.2.1).trans (hdue.exec_tick_moves hu hm)

theorem State.OnlyScheduler.step_stays {s u : State} (h : s.OnlyScheduler) (hdue : s.TableTickDue)
    (hu : TableRow s u) (hf : u.fast = s.fast) : step s = .next { u with tickPending := false } :=
  (h.step_eq hdue.2.1).trans (hdue.exec_tick_stays hu hf)

/-! ## A reset from `Active` (R285) -/

/-- The states of a reset, from `Active` to `ResetWait` at rest (R285). -/
def State.resetPlace (s : State) : Nat → State
  | 0 => s
  | 1 => { s.setOut .cpuEn false with fast := .disClocks }
  | 2 => { s.setOut .cpuEn false with fast := .resetPrep }
  | 3 => { ((s.setOut .cpuEn false).emit (.resetReq s.rst.domain s.rst.cause)).dropRequest with fast := .resetWait }
  | _ => { ((s.setOut .cpuEn false).emit (.resetReq s.rst.domain s.rst.cause)).dropRequest with
      fast := .resetWait, tickPending := false }

theorem State.OnlyScheduler.step_resetPlace {s : State} (h : s.OnlyScheduler) (hdue : s.TableTickDue)
    (hf : s.fast = .active) (hstatus : s.regs.resetStatus ≠ 0#32) (hrst : s.rst.domain ≠ .none) :
    ∀ n, n < 4 → step (s.resetPlace n) = .next (s.resetPlace (n + 1))
  | 0, _ => h.step_moves hdue (.activeReset hf hstatus) fun heq => absurd (heq.trans hf) nofun
  | 1, _ => State.OnlyScheduler.step_moves (s := s.resetPlace 1) h hdue (.disClocks rfl) nofun
  | 2, _ => State.OnlyScheduler.step_moves (s := s.resetPlace 2) h hdue (.resetPrep rfl hrst) nofun
  | 3, _ => State.OnlyScheduler.step_stays (s := s.resetPlace 3) h hdue (.stay (.inr (.inl rfl))) rfl

/-- Settles O60: the rows of `Active`, `DisClocks` and `ResetPrep`, and the rest in `ResetWait`. -/
theorem pendingResetReachesResetWait : Obligations.PendingResetReachesResetWait := by
  unfold Obligations.PendingResetReachesResetWait
  intro s hdue hd ha hf hcpu hstatus hrst
  have hsched : s.OnlyScheduler := ⟨hd, ha⟩
  have hrun := run_of_chain (hsched.step_resetPlace hdue hf hstatus hrst) 4 (Nat.le_refl 4)
  refine ⟨⟨Config.freeCauseToken s.freeCount⟩, hrun.trans ?_⟩
  simp [State.resetPlace, setOut_false, Outputs.get, Outputs.set, hcpu]

/-! ## The boot (R206) -/

/-- What the boot rests on, besides the state of the machines: a block that runs, with every boot input latched and
nothing to disturb it. -/
structure BootInputs (s : State) : Prop where
  ready : s.Ready
  pending : s.tickPending = true
  scheduler : s.OnlyScheduler
  latched : InputsLatched s
  undisturbed : Undisturbed s

/-- A place of the boot: the fast state, the request line which it asserts, and the events so far. -/
def State.booting (f : FastState) (es : List Event) (s : State) : State :=
  { s with
    slow := .idle
    fast := f
    out := ⟨s.out.wakeIrq, s.out.alert, decide (f = .otpInit), decide (f = .lcInit), false, decide (f = .romCheckDone)⟩
    history := s.history ++ es }

/-- The states of the boot, from the one of a fresh reset to `Active` at rest (R206). -/
def State.bootPlace (s : State) : Nat → State
  | 0 => s
  | 1 => s.booting .enableClocks []
  | 2 => s.booting .releaseLcReset []
  | 3 => s.booting .otpInit [.line .otpReq true]
  | 4 => s.booting .lcInit [.line .otpReq true, .line .otpReq false, .line .lcReq true]
  | 5 => s.booting .ackPwrUp [.line .otpReq true, .line .otpReq false, .line .lcReq true, .line .lcReq false]
  | 6 => s.booting .strap [.line .otpReq true, .line .otpReq false, .line .lcReq true, .line .lcReq false]
  | 7 => s.booting .romCheckDone [.line .otpReq true, .line .otpReq false, .line .lcReq true, .line .lcReq false,
      .line .strap true]
  | 8 => s.booting .romCheckGood [.line .otpReq true, .line .otpReq false, .line .lcReq true, .line .lcReq false,
      .line .strap true, .line .strap false]
  | 9 => s.booting .active [.line .otpReq true, .line .otpReq false, .line .lcReq true, .line .lcReq false,
      .line .strap true, .line .strap false]
  | _ => { (s.booting .active [.line .otpReq true, .line .otpReq false, .line .lcReq true, .line .lcReq false,
      .line .strap true, .line .strap false]).setOut .cpuEn true with tickPending := false }

theorem setOut_booting {s : State} {f g : FastState} {es : List Event} {l : OutLine} {b : Bool}
    (hout : (s.booting f es).out.set b l = (s.booting g es).out) (hg : (s.booting f es).out.get l ≠ b) :
    ({ (s.booting f es).setOut l b with fast := g } : State) = s.booting g (es ++ [.line l b]) := by
  simp only [State.setOut, hout, lineEvents, if_neg hg]
  simp [State.booting]

section
variable {s u : State} {f : FastState} {es : List Event} (h : BootInputs s)
include h

theorem BootInputs.due : (s.booting f es).TableTickDue := ⟨h.ready, h.pending, rfl, h.undisturbed.1⟩

theorem BootInputs.step_booting (hu : TableRow (s.booting f es) u) (hm : u.fast ≠ f) :
    step (s.booting f es) = .next u :=
  State.OnlyScheduler.step_moves h.scheduler h.due hu hm

theorem BootInputs.step_bootPlace (hslow : s.slow = .reset) (hf : s.fast = .lowPower)
    (hout : s.out = ⟨s.out.wakeIrq, s.out.alert, false, false, false, false⟩)
    (hdone : allRoms s.cfg s.latch.romDone = true) (hgood : allRoms s.cfg s.latch.romGood = true) :
    ∀ n, n < 10 → step (s.bootPlace n) = .next (s.bootPlace (n + 1))
  | 0, _ => by
    rw [State.bootPlace, h.scheduler.step_eq h.pending,
      exec_tick_of_moving_row h.ready h.pending (.inl hslow) h.undisturbed.1 (.lowPower hf) (by simp [hf])]
    simpa [State.bootPlace, State.booting] using hout
  | 1, _ => h.step_booting (.enableClocks rfl) nofun
  | 2, _ => (h.step_booting (.releaseLcReset rfl) nofun).trans (congrArg _ (setOut_booting rfl nofun))
  | 3, _ => (h.step_booting (.otpInit rfl h.latched.1) nofun).trans (by
      simp [State.bootPlace, State.booting, State.setOut, lineEvents, Outputs.get, Outputs.set])
  | 4, _ => (h.step_booting (.lcInit rfl h.latched.2.1) nofun).trans (congrArg _ (setOut_booting rfl nofun))
  | 5, _ => h.step_booting (.ackPwrUp rfl) nofun
  | 6, _ => (h.step_booting (.strap rfl) nofun).trans (congrArg _ (setOut_booting rfl nofun))
  | 7, _ => (h.step_booting (.romCheckDone rfl hdone) nofun).trans (congrArg _ (setOut_booting rfl nofun))
  | 8, _ => h.step_booting (.romCheckGood rfl hgood h.undisturbed.2.2) nofun
  | 9, _ =>
    State.OnlyScheduler.step_stays (s := s.bootPlace 9) h.scheduler h.due (.activeIdle rfl h.undisturbed.2.1) rfl

end

theorem bootPlace_number_pending {s : State} (hf : s.fast = .lowPower) (hp : s.tickPending = true) {n : Nat}
    (hn : n ≤ 9) : (s.bootPlace n).fast.number = n ∧ (s.bootPlace n).tickPending = true := by
  interval_cases n
  · exact ⟨congrArg _ hf, hp⟩
  all_goals exact ⟨rfl, hp⟩

/-- Settles O59: the chain of the boot's states, and its last one written out. -/
theorem bootTakesTenTicks : Obligations.BootTakesTenTicks := by
  unfold Obligations.BootTakesTenTicks
  intro s hr hd ha hp hslow hf hout hstatus he hhold hotp hlc hroms
  obtain ⟨-, -, -, hcount, -⟩ := wellFormed_facts hr.2
  have hinputs : BootInputs s := ⟨hr, hp, ⟨hd, ha⟩, ⟨hotp, hlc, hroms⟩, ⟨he, hstatus, hhold⟩⟩
  have hrun := run_of_chain (hinputs.step_bootPlace hslow hf hout
    ((allRoms_iff hcount _).mpr fun k hk => (hroms k hk).1) ((allRoms_iff hcount _).mpr fun k hk => (hroms k hk).2))
  refine ⟨fun n hn => ⟨_, hrun n (by omega), bootPlace_number_pending hf hp hn⟩, (hrun 10 (Nat.le_refl 10)).trans ?_⟩
  rw [hout]
  simp [State.bootPlace, State.booting, State.setOut, lineEvents, Outputs.get, Outputs.set]

end Sys2Proof.Machine

/-! # Registers that no other operation reads (spec 40_register_access.md) -/

namespace Sys2Proof.Machine

/-! ## Storing a register before an operation or after it -/

theorem RegFile.set_comm (f : RegFile) (v w : Word) {q r : Reg} (h : q ≠ r) :
    (f.set v r).set w q = (f.set w q).set v r := by
  cases r <;> cases q <;> first | rfl | exact absurd rfl h

/-- The registers without an effect in scope: only their own accesses and component reset touch them (R28, R31, R37). -/
def hasNoEffect : Reg → Bool
  | .wakeupEn => true
  | .control => true
  | .wakeInfoCaptureDis => true
  | _ => false

section
variable {q r : Reg} {v : Word} {s : State}

theorem reg_setReg_other (h : q ≠ r) : (s.setReg r v).reg q = s.reg q := RegFile.get_set_other _ _ _ _ h

theorem setReg_comm (w : Word) (h : q ≠ r) : (s.setReg r v).setReg q w = (s.setReg q w).setReg r v :=
  congrArg (fun f => { s with regs := f }) (RegFile.set_comm s.regs v w h)

/-- An update passes through a choice that does not depend on it. -/
theorem ite_map {α β : Type} (u : α → β) (c : Prop) [Decidable c] {a b : α} {a' b' : β} (ha : a' = u a)
    (hb : b' = u b) : (if c then a' else b') = u (if c then a else b) := by
  rw [ha, hb, apply_ite u]

theorem readStored_setReg (h : q ≠ r) : readStored q (s.setReg r v) = mapNext (State.setReg r v) (readStored q s) :=
  running_map _ rfl rfl (by rw [reg_setReg_other h]; rfl)

theorem storeRW_setReg (data : Word) (h : q ≠ r) :
    (s.setReg r v).storeRW q data = (s.storeRW q data).setReg r v :=
  setReg_comm _ h

theorem storeRW1C_setReg (data : Word) (h : q ≠ r) :
    (s.setReg r v).storeRW1C q data = (s.storeRW1C q data).setReg r v := by
  unfold State.storeRW1C
  rw [reg_setReg_other h, setReg_comm _ h]
  rfl

theorem storeRW0C_setReg (data : Word) (h : q ≠ r) :
    (s.setReg r v).storeRW0C q data = (s.storeRW0C q data).setReg r v := by
  unfold State.storeRW0C
  rw [reg_setReg_other h, setReg_comm _ h]
  rfl

theorem writeGated_setReg {gate : Reg} (data : Word) (hq : q ≠ r) (hgate : gate ≠ r) :
    writeGated q gate data (s.setReg r v) = mapNext (State.setReg r v) (writeGated q gate data s) := by
  refine running_map _ rfl rfl ?_
  rw [reg_setReg_other hgate]
  exact congrArg Host.Outcome.next (ite_map _ _ (storeRW_setReg data hq) rfl)

theorem updateIrq_setReg (hstate : .intrState ≠ r) (henable : .intrEnable ≠ r) :
    (s.setReg r v).updateIrq = s.updateIrq.setReg r v := by
  have hlevel : irqLevel (s.regs.set v r) = irqLevel s.regs := by
    show ((s.setReg r v).reg .intrState &&& (s.setReg r v).reg .intrEnable != 0#32) = _
    rw [reg_setReg_other hstate, reg_setReg_other henable]
    rfl
  unfold State.updateIrq
  rw [State.setReg_regs, hlevel]
  rfl

theorem resetInFlight_setReg (h : .resetStatus ≠ r) : (s.setReg r v).resetInFlight = s.resetInFlight := by
  rw [State.resetInFlight, reg_setReg_other h]
  rfl

theorem acceptReset_setReg (h : .resetStatus ≠ r) (k : Nat) (cause : ResetCause) :
    (s.setReg r v).acceptReset k cause = (s.acceptReset k cause).setReg r v := by
  unfold State.acceptReset
  rw [reg_setReg_other h, setReg_comm _ h]
  rfl

/-! ## The tick reads RESET_STATUS and no other register -/

theorem fastStep_setReg (h : .resetStatus ≠ r) : fastStep (s.setReg r v) = (fastStep s).map (State.setReg r v) := by
  unfold fastStep
  rw [State.setReg_fast]
  cases hf : s.fast
  case otpInit | lcInit | romCheckDone | romCheckGood | resetPrep =>
    exact congrArg Except.ok (ite_map (State.setReg r v) _ rfl rfl)
  case active =>
    refine congrArg Except.ok ?_
    rw [stepActive, resetInFlight_setReg h]
    exact ite_map (State.setReg r v) _ rfl rfl
  all_goals rfl

theorem escalateStep_setReg :
    escalateStep (s.setReg r v) = ((escalateStep s).1.setReg r v, (escalateStep s).2) := by
  rw [escalateStep_eq, escalateStep_eq, State.setReg_fast]
  split <;> rfl

theorem fastPass_setReg (c : Bool) (h : .resetStatus ≠ r) :
    fastPass c (s.setReg r v) = mapNext (State.setReg r v) (fastPass c s) := by
  unfold fastPass
  rw [escalateStep_setReg, fastStep_setReg h, State.setReg_latch]
  cases s.latch.escalate
  · cases fastStep s with
    | error f => rfl
    | ok t => simp only [Except.map, rearmIf_eq]; rfl
  · simp only [rearmIf_eq]; rfl

theorem slowStep_setReg :
    slowStep (s.setReg r v) = (slowStep s).map fun p => (p.1.setReg r v, p.2) := by
  unfold slowStep
  rw [State.setReg_slow]
  cases s.slow <;> rfl

theorem tickPass_setReg (h : .resetStatus ≠ r) :
    tickPass (s.setReg r v) = mapNext (State.setReg r v) (tickPass s) := by
  have hslow := slowStep_setReg (r := r) (v := v) (s := { s with tickPending := false })
  unfold tickPass
  rw [show { s.setReg r v with tickPending := false } = State.setReg r v { s with tickPending := false } from rfl,
    hslow]
  cases slowStep { s with tickPending := false } with
  | error f => rfl
  | ok p =>
    obtain ⟨t, c⟩ := p
    show (if t.slow = .idle then fastPass c (t.setReg r v) else .next ((t.setReg r v).rearmIf c)) =
      mapNext _ (if t.slow = .idle then fastPass c t else .next (t.rearmIf c))
    rw [fastPass_setReg c h, rearmIf_eq, rearmIf_eq]
    split <;> rfl

theorem exec_tick_setReg (h : .resetStatus ≠ r) :
    exec .tick (s.setReg r v) = mapNext (State.setReg r v) (exec .tick s) := by
  refine running_map _ rfl rfl ?_
  rw [State.setReg_tickPending, tickPass_setReg h]
  split <;> rfl

end

/-! ## No other operation reads or writes them -/

theorem ignores_setReg {r : Reg} (hr : hasNoEffect r = true) (v : Word) {i : Instr} (hread : i ≠ r.readInstr)
    (hwrite : ∀ data, i ≠ r.writeInstr data) (hreset : i ≠ .reset) : Ignores i (State.setReg r v) := by
  intro s
  have other {q : Reg} (hq : hasNoEffect q = false) : q ≠ r := by
    rintro rfl
    exact absurd (hr.symm.trans hq) nofun
  have choice (c : Bool) {a b a' b' : State} (ha : a' = a.setReg r v) (hb : b' = b.setReg r v) :
      (.next (if c then a' else b') : Answer) = mapNext (State.setReg r v) (.next (if c then a else b)) :=
    congrArg Host.Outcome.next (ite_map (State.setReg r v) _ ha hb)
  cases i
  case reset => exact absurd rfl hreset
  case tick => exact exec_tick_setReg (other rfl)
  case readIntrState | readIntrEnable | readCtrlCfgRegwen | readControl | readCfgCdcSync | readWakeupEnRegwen |
      readWakeupEn | readWakeStatus | readResetEnRegwen | readResetEn | readEscalateResetStatus |
      readWakeInfoCaptureDis | readWakeInfo | readFaultStatus =>
    exact readStored_setReg fun h => hread (h ▸ rfl)
  case readResetStatus =>
    refine running_map _ rfl rfl ?_
    rw [reg_setReg_other (other rfl)]
    rfl
  case readIntrTest | readAlertTest | readUnmapped | writeCtrlCfgRegwen | writeWakeStatus | writeResetStatus |
      writeEscalateResetStatus | writeFaultStatus | writeUnmapped =>
    exact running_map _ rfl rfl rfl
  case writeIntrState data =>
    refine running_map _ rfl rfl ?_
    rw [storeRW1C_setReg data (other rfl), updateIrq_setReg (other rfl) (other rfl)]
    rfl
  case writeIntrEnable data =>
    refine running_map _ rfl rfl ?_
    rw [storeRW_setReg data (other rfl), updateIrq_setReg (other rfl) (other rfl)]
    rfl
  case writeIntrTest data =>
    refine running_map _ rfl rfl ?_
    rw [reg_setReg_other (other rfl), setReg_comm _ (other rfl), updateIrq_setReg (other rfl) (other rfl)]
    rfl
  case writeAlertTest => exact running_map _ rfl rfl (choice _ rfl rfl)
  case writeCfgCdcSync =>
    refine running_map _ rfl rfl ?_
    rw [reg_setReg_other (other rfl), setReg_comm _ (other rfl)]
    rfl
  case writeWakeInfoCaptureDis data =>
    exact running_map _ rfl rfl (congrArg _ (storeRW_setReg data fun h => hwrite data (h ▸ rfl)))
  case writeWakeInfo data =>
    exact running_map _ rfl rfl (congrArg _ (storeRW1C_setReg data (other rfl)))
  case writeWakeupEnRegwen data | writeResetEnRegwen data =>
    exact running_map _ rfl rfl (congrArg _ (storeRW0C_setReg data (other rfl)))
  case writeControl data | writeWakeupEn data | writeResetEn data =>
    exact writeGated_setReg data (fun h => hwrite data (h ▸ rfl)) (other rfl)
  case lineRomGood | lineRomDone | lineWakeup | lineLcRsp | lineOtpRsp | lineHoldFetch =>
    exact deliver_map _ rfl rfl rfl (choice _ rfl rfl)
  case lineEscalate =>
    have hstored := setReg_comm (r := r) (v := v) (s := s.latchEscalate) 1#32 (other (q := .escalateResetStatus) rfl)
    exact deliver_map _ rfl rfl rfl (choice _ (congrArg State.armTick hstored) rfl)
  case lineSwRstReq =>
    refine deliver_map _ rfl rfl rfl (choice _ rfl ?_)
    rw [resetInFlight_setReg (other rfl)]
    exact ite_map (State.setReg r v) _ rfl (acceptReset_setReg (s := s.latchSwReset) (other rfl) _ _)
  case lineRstReq index _ =>
    refine running_map _ rfl rfl ?_
    rw [resetInFlight_setReg (other rfl), reg_setReg_other (other rfl)]
    refine ite_map _ _ rfl (ite_map _ _ rfl (ite_map _ _ rfl (ite_map _ _ rfl ?_)))
    rw [State.setReg_cfg]
    cases s.cfg.resetDispatch[index.toNat]? with
    | none => rfl
    | some cause =>
      exact congrArg Host.Outcome.next (acceptReset_setReg (s := s.latchHwReset) (other rfl) _ cause)
  case timerExpire =>
    refine running_map _ rfl rfl ?_
    rw [reg_setReg_other (other rfl), setReg_comm _ (other rfl), State.setReg_cdcTimerArmed]
    split <;> rfl

/-! ## The statements -/

theorem exec_writeWakeInfoCaptureDis_of_ready {s : State} (hs : s.Ready) (data : Word) :
    exec (.writeWakeInfoCaptureDis data) s =
      .next { s with regs := { s.regs with wakeInfoCaptureDis := data &&& 1#32 } } :=
  running_of_ready hs

/-- Settles O20: the store, and the register's independence of every other operation. -/
theorem captureDisableWriteIsUnread : Obligations.CaptureDisableWriteIsUnread :=
  ⟨fun _ data hs => exec_writeWakeInfoCaptureDis_of_ready hs data,
    fun _ v hread hwrite hreset => ignores_setReg (r := .wakeInfoCaptureDis) rfl v hread hwrite hreset⟩

/-- Settles O18: the gated write in both cases, and the register's independence of every other operation. -/
theorem controlWriteIsGatedAndUnread : Obligations.ControlWriteIsGatedAndUnread :=
  ⟨fun _ _ hs => ⟨fun ho => writeGated_open hs ho, fun hc => writeGated_locked hs hc⟩,
    fun _ v hread hwrite hreset => ignores_setReg (r := .control) rfl v hread hwrite hreset⟩

/-- A word told bit by bit as the low `n` bits of the data is the masked data. -/
theorem eq_and_lowMask {v data : Word} {n : Nat} (hn : n ≤ 32)
    (h : ∀ k, v.getLsbD k = (decide (k < n) && data.getLsbD k)) : v = data &&& BitVec.ofNat 32 (2 ^ n - 1) := by
  refine BitVec.eq_of_getLsbD_eq fun k _ => ?_
  rw [h, BitVec.getLsbD_and, getLsbD_mask 32 n k hn, Bool.and_comm]

/-- Settles O17: the gated write in both cases, the mask told bit by bit, and the register's independence of every
other operation. -/
theorem wakeupEnableWriteIsGated : Obligations.WakeupEnableWriteIsGated := by
  unfold Obligations.WakeupEnableWriteIsGated
  refine ⟨fun s data v hs => ⟨fun ho hv => ?_, fun hc => writeGated_locked hs hc⟩,
    encode_writeInstr_eq_append .wakeupEn,
    fun i v hread hwrite hreset => ignores_setReg (r := .wakeupEn) rfl v hread hwrite hreset⟩
  obtain ⟨-, -, -, -, hcount, -⟩ := wellFormed_facts hs.2
  rw [eq_and_lowMask (by omega) hv]
  exact writeGated_open hs ho

end Sys2Proof.Machine

/-! # Register access: the remaining reads and writes (spec 40_register_access.md) -/

namespace Sys2Proof.Machine

/-! ## Reads -/

/-- Settles O11: three stored reads, and the read that masks RESET_STATUS. -/
theorem readsRestingOnDecisions : Obligations.ReadsRestingOnDecisions := by
  unfold Obligations.ReadsRestingOnDecisions
  intro s hs
  have read (r : Reg) := readStored_of_ready (r := r) hs
  refine ⟨read .control, read .wakeupEn, read .escalateResetStatus, s.regs.resetStatus &&& s.cfg.resetMask,
    running_of_ready hs, fun k => ?_⟩
  obtain ⟨hcount, hmask, -⟩ := wellFormed_facts hs.2
  rw [BitVec.getLsbD_and, hmask, getLsbD_mask 32 _ _ (by omega), Bool.and_comm]

/-- Settles O12: the one law of write-only reads, at both registers. -/
theorem writeOnlyRegistersReadZero : Obligations.WriteOnlyRegistersReadZero :=
  ⟨fun _ hs => ⟨readWriteOnly_of_ready hs, readWriteOnly_of_ready hs⟩, encode_readInstr_eq_append .intrTest,
    encode_readInstr_eq_append .alertTest, fun _ => rfl⟩

/-- Settles O13: the rule of R140, and the word of its offset. -/
theorem unmappedReadIsIllegal : Obligations.UnmappedReadIsIllegal :=
  fun _ _ hs => ⟨running_of_ready hs, rfl⟩

/-! ## Writes -/

theorem exec_writeIntrTest_of_ready {s : State} (hs : s.Ready) (data : Word) :
    exec (.writeIntrTest data) s =
      .next (s.setReg .intrState (s.regs.intrState ||| (data &&& 1#32))).updateIrq :=
  running_of_ready hs

/-- Settles O15: the accumulated word is stored, and the line follows the register file. -/
theorem interruptTestWrite : Obligations.InterruptTestWrite := by
  unfold Obligations.InterruptTestWrite
  rintro s data v b hs rfl rfl
  refine ⟨?_, encode_writeInstr_eq_append .intrTest data⟩
  rw [exec_writeIntrTest_of_ready hs, updateIrq_eq]
  rfl

theorem getLsbD_zero_and_one (data : Word) : (data &&& 1#32).getLsbD 0 = data.getLsbD 0 := by
  rw [BitVec.getLsbD_and]
  exact Bool.and_true _

theorem exec_writeAlertTest_of_ready {s : State} (hs : s.Ready) (data : Word) :
    exec (.writeAlertTest data) s = .next (if data.getLsbD 0 then s.setOut .alert true else s) := by
  rw [← getLsbD_zero_and_one data]
  exact running_of_ready hs

/-- Settles O16: the two cases of bit 0. -/
theorem alertTestWrite : Obligations.AlertTestWrite := by
  unfold Obligations.AlertTestWrite
  refine fun s data hs => ⟨fun h => ?_, fun h => ?_⟩
  · rw [exec_writeAlertTest_of_ready hs, h, if_pos rfl, setOut_true]
    rfl
  · rw [exec_writeAlertTest_of_ready hs, h, if_neg nofun]

/-- Settles O19: the gated write in both cases, the mask told bit by bit. -/
theorem resetEnableWriteIsGated : Obligations.ResetEnableWriteIsGated := by
  unfold Obligations.ResetEnableWriteIsGated
  refine fun s data v hs => ⟨fun ho hv => ?_, fun hc => writeGated_locked hs hc⟩
  obtain ⟨hcount, hmask, -⟩ := wellFormed_facts hs.2
  rw [eq_and_lowMask (by omega) hv, ← hmask]
  exact writeGated_open hs ho

/-- Settles O21: the one law of read-only writes, at each register. -/
theorem readOnlyWritesAreRejected : Obligations.ReadOnlyWritesAreRejected := by
  unfold Obligations.ReadOnlyWritesAreRejected
  intro s data hs
  have write (r : Reg) := writeReadOnly_of_ready (r := r) (data := data) hs
  exact ⟨write .ctrlCfgRegwen, write .wakeStatus, write .resetStatus, write .escalateResetStatus, write .faultStatus⟩

/-- Settles O22: the write-0-to-clear store of both locks. -/
theorem lockRegisterWrites : Obligations.LockRegisterWrites :=
  fun _ _ hs => ⟨running_of_ready hs, running_of_ready hs⟩

theorem and_one_eq (data : Word) : data &&& 1#32 = if data.getLsbD 0 then 1#32 else 0#32 := by
  rw [BitVec.and_one_eq_setWidth_ofBool_getLsbD]
  cases data.getLsbD 0 <;> rfl

theorem exec_writeCfgCdcSync_of_ready {s : State} (hs : s.Ready) (data : Word) :
    exec (.writeCfgCdcSync data) s = .next { s.setReg .cfgCdcSync (s.regs.cfgCdcSync ||| (data &&& 1#32)) with
      cdcTimerArmed := s.cdcTimerArmed || data &&& 1#32 != 0#32 } :=
  running_of_ready hs

/-- Settles O23: the two cases of bit 0. -/
theorem cdcSyncWriteArmsTheTimer : Obligations.CdcSyncWriteArmsTheTimer := by
  unfold Obligations.CdcSyncWriteArmsTheTimer
  refine fun s data hs => ⟨fun h => ?_, fun h => ?_⟩
  · rw [exec_writeCfgCdcSync_of_ready hs, and_one_eq, h, if_pos rfl, bne_iff_ne.mpr (by decide), Bool.or_true]
    rfl
  · rw [exec_writeCfgCdcSync_of_ready hs, and_one_eq, h, if_neg nofun, bne_self_eq_false, Bool.or_false,
      BitVec.or_zero]
    rfl

/-- Settles O24: the write-1-to-clear store, its mask told bit by bit. -/
theorem wakeInfoWriteClearsBits : Obligations.WakeInfoWriteClearsBits := by
  unfold Obligations.WakeInfoWriteClearsBits
  intro s data v hs hv
  obtain ⟨-, -, -, -, hcount, -⟩ := wellFormed_facts hs.2
  have hword : v = rw1c s.regs.wakeInfo (s.masked .wakeInfo data) := by
    refine BitVec.eq_of_getLsbD_eq fun k hk => ?_
    rw [hv, rw1c, State.masked, legal, lowMask, BitVec.getLsbD_and, BitVec.getLsbD_not, BitVec.getLsbD_and,
      getLsbD_mask 32 _ _ (by omega), decide_eq_true hk, Bool.true_and, Bool.and_comm (data.getLsbD k)]
  rw [hword]
  exact running_of_ready hs

/-- Settles O25: the rule of R141, the word of its offset, and R140's offsets. -/
theorem unmappedWriteChangesNothing : Obligations.UnmappedWriteChangesNothing := by
  unfold Obligations.UnmappedWriteChangesNothing
  refine fun s offset data hs => ⟨running_of_ready hs, rfl, rfl, ?_⟩
  simp only [Instr.wellFormed, unmappedOffset, Bool.and_eq_true, decide_eq_true_eq, and_assoc]

/-! ## Every bus access -/

/-- A bus access answers a next state on every block that runs (R100, R101). -/
theorem exec_bus_completes {i : Instr} (hi : isRead i = true ∨ isWrite i = true) {s : State} (hs : s.Ready) :
    ∃ t, exec i s = .next t := by
  have completes {t : State} : ∃ t', running s (.next t) = .next t' := ⟨t, running_of_ready hs⟩
  cases i
  case lineRomGood | lineRomDone | lineWakeup | lineRstReq | lineSwRstReq | lineLcRsp | lineOtpRsp | lineEscalate |
      lineHoldFetch | tick | timerExpire | reset =>
    exact absurd hi (by simp [isRead, isWrite])
  all_goals exact completes

/-- What no bus access touches. -/
theorem Effect.bus_frame {i : Instr} {s t : State} (h : Effect s i t) (hi : isRead i = true ∨ isWrite i = true) :
    t.cfg = s.cfg ∧ t.latch = s.latch ∧ t.rst = s.rst ∧ t.slow = s.slow ∧ t.fast = s.fast ∧
    t.tickPending = s.tickPending ∧ t.halted = s.halted ∧ t.deliveries = s.deliveries ∧ t.freeCount = s.freeCount := by
  cases h
  case romGood | romDone | hwReset | swReset | lcRsp | otpRsp | escalate | holdFetch | timerExpire | reset =>
    exact absurd hi (by simp [isRead, isWrite])
  all_goals exact ⟨rfl, rfl, rfl, rfl, rfl, rfl, rfl, rfl, rfl⟩

theorem not_isWrite_of_isRead {i : Instr} (h : isRead i = true) : isWrite i = false := by
  cases i <;> first | rfl | cases h

theorem Effect.results_of_isWrite {i : Instr} {s t : State} (h : Effect s i t) (hi : isWrite i = true) :
    t.results = s.results := by
  cases h
  case read _ hread => exact absurd ((not_isWrite_of_isRead hread).symm.trans hi) nofun
  case reset => exact absurd hi nofun
  all_goals rfl

theorem Effect.of_isRead {i : Instr} {s t : State} (h : Effect s i t) (hi : isRead i = true) :
    t.regs = s.regs ∧ t.out = s.out ∧ t.cdcTimerArmed = s.cdcTimerArmed ∧ ∃ r, t.results = s.results ++ [r] := by
  cases h
  case read r _ _ => exact ⟨rfl, rfl, rfl, r, rfl⟩
  case nothing hread _ | report hread _ => exact absurd (hi.symm.trans hread) nofun
  all_goals exact absurd hi nofun

/-- Settles O52: a bus access completes, and its effect is a read's or a write's. -/
theorem busAccessesCompleteAndSpareTheFsm : Obligations.BusAccessesCompleteAndSpareTheFsm := by
  unfold Obligations.BusAccessesCompleteAndSpareTheFsm
  intro i s hs hi
  obtain ⟨t, ht⟩ := exec_bus_completes hi hs
  have heffect := exec_effect (by rintro rfl; exact absurd hi (by decide)) ht
  obtain ⟨hcfg, hlatch, hrst, hslow, hfast, hpending, hhalted, hdeliveries, hfree⟩ := heffect.bus_frame hi
  exact ⟨t, ht, hcfg, hlatch, hrst, hslow, hfast, hpending, hhalted, hdeliveries, hfree,
    heffect.results_of_isWrite, heffect.of_isRead⟩

/-! ## The same write twice (R64) -/

theorem RegFile.set_set (f : RegFile) (v w : Word) (r : Reg) : (f.set v r).set w r = f.set w r := by
  cases r <;> rfl

section
variable (s : State) {r : Reg} (data : Word)

theorem setReg_setReg (v w : Word) : (s.setReg r v).setReg r w = s.setReg r w :=
  congrArg (fun f => { s with regs := f }) (RegFile.set_set s.regs v w r)

theorem reg_setReg_same (h : Reg.stored r = true) (v : Word) : (s.setReg r v).reg r = v :=
  RegFile.get_set_same _ _ _ h

theorem storeRW_storeRW : (s.storeRW r data).storeRW r data = s.storeRW r data :=
  setReg_setReg s _ _

theorem storeRW1C_storeRW1C (h : Reg.stored r = true) :
    (s.storeRW1C r data).storeRW1C r data = s.storeRW1C r data := by
  unfold State.storeRW1C
  rw [setReg_setReg, reg_setReg_same s h]
  simp only [rw1c, BitVec.and_assoc, State.masked, State.setReg_cfg, BitVec.and_self]

theorem storeRW0C_storeRW0C (h : Reg.stored r = true) :
    (s.storeRW0C r data).storeRW0C r data = s.storeRW0C r data := by
  unfold State.storeRW0C
  rw [setReg_setReg, reg_setReg_same s h]
  simp only [rw0c, BitVec.and_assoc, State.masked, State.setReg_cfg, BitVec.and_self]

theorem setReg_or_setReg_or (h : Reg.stored r = true) (v : Word) :
    (s.setReg r (s.reg r ||| v)).setReg r ((s.setReg r (s.reg r ||| v)).reg r ||| v) =
      s.setReg r (s.reg r ||| v) := by
  rw [setReg_setReg, reg_setReg_same s h, BitVec.or_assoc, BitVec.or_self]

end

/-- Doing it again changes nothing but the history. -/
def SettlesAtOnce (u : State → State) : Prop := ∀ s, ∃ h, u (u s) = { u s with history := h }

theorem settles_of_idempotent {u : State → State} (h : ∀ s, u (u s) = u s) : SettlesAtOnce u :=
  fun s => ⟨(u s).history, h s⟩

/-- A store that settles does so with the interrupt line following it (R136). -/
theorem settles_updateIrq {store : State → State} (h : ∀ s, store (store s) = store s)
    (hframe : ∀ s o es, store { s with out := o, history := es } = { store s with out := o, history := es }) :
    SettlesAtOnce fun s => (store s).updateIrq := by
  intro s
  have hstore : store (store s).updateIrq = (store s).updateIrq := by rw [updateIrq_eq, hframe, h]
  show ∃ es, (store (store s).updateIrq).updateIrq = _
  rw [hstore, updateIrq_eq (store s).updateIrq]
  exact ⟨_, rfl⟩

theorem settles_gated {r gate : Reg} (data : Word) (h : gate ≠ r) : SettlesAtOnce fun s =>
    if (s.reg gate).getLsbD 0 then s.storeRW r data else s.diag (.lockedWrite r.offset data) := by
  intro s
  cases hg : (s.reg gate).getLsbD 0
  · have hdiag (d : Diag) : ((s.diag d).reg gate).getLsbD 0 = false := hg
    simp only [hg, hdiag, Bool.false_eq_true, if_false]
    exact ⟨_, rfl⟩
  · have hstored : ((s.storeRW r data).reg gate).getLsbD 0 = true := by
      rw [State.storeRW, reg_setReg_other h]
      exact hg
    simp only [hg, hstored, if_true, storeRW_storeRW]
    exact ⟨_, rfl⟩

theorem settles_alert (c : State → Bool) (hc : ∀ s, c (s.setOut .alert true) = c s) :
    SettlesAtOnce fun s => if c s then s.setOut .alert true else s := by
  intro s
  cases hs : c s
  · exact ⟨s.history, by simp [hs]⟩
  · simp only [hs, hc, if_true]
    exact ⟨_, rfl⟩

theorem settles_cdcSync (v : Word) : SettlesAtOnce fun s =>
    { s.setReg .cfgCdcSync (s.reg .cfgCdcSync ||| v) with cdcTimerArmed := s.cdcTimerArmed || v != 0#32 } := by
  refine settles_of_idempotent fun s => ?_
  have hregs := setReg_or_setReg_or s (r := .cfgCdcSync) rfl v
  have harmed : (s.cdcTimerArmed || v != 0#32 || v != 0#32) = (s.cdcTimerArmed || v != 0#32) := by
    rw [Bool.or_assoc, Bool.or_self]
  exact congrArg₂ (fun t b => ({ t with cdcTimerArmed := b } : State)) hregs harmed

/-- A write whose update settles can be done again. -/
theorem exec_again {i : Instr} {u : State → State} {s t : State} (hexec : ∀ s, exec i s = running s (.next (u s)))
    (hu : SettlesAtOnce u) (ht : t.Ready) (h : exec i s = .next t) :
    ∃ es, exec i t = .next { t with history := es } := by
  rw [hexec] at h
  obtain rfl := Host.Outcome.next.inj (running_next_iff.mp h).2
  obtain ⟨es, hes⟩ := hu s
  exact ⟨es, by rw [hexec, running_of_ready ht, hes]⟩

/-- Settles O57: each write's update settles at once. -/
theorem busWritesAreIdempotent : Obligations.BusWritesAreIdempotent := by
  unfold Obligations.BusWritesAreIdempotent
  intro i s t hi h
  have heffect := exec_effect (by rintro rfl; exact absurd hi nofun) h
  obtain ⟨hcfg, -, -, -, -, -, hhalted, -⟩ := heffect.bus_frame (.inr hi)
  have hs := exec_ready h
  have ht : t.Ready := ⟨hhalted.trans hs.1, (congrArg Config.wellFormed hcfg).trans hs.2⟩
  cases i
  case writeIntrState data =>
    exact exec_again (fun _ => rfl) (settles_updateIrq (fun s => storeRW1C_storeRW1C s data rfl) fun _ _ _ => rfl) ht h
  case writeIntrEnable data =>
    exact exec_again (fun _ => rfl) (settles_updateIrq (fun s => storeRW_storeRW s data) fun _ _ _ => rfl) ht h
  case writeIntrTest data =>
    exact exec_again (fun _ => rfl) (settles_updateIrq
      (fun s => setReg_or_setReg_or s (r := .intrState) rfl (data &&& 1#32)) fun _ _ _ => rfl) ht h
  case writeAlertTest data =>
    exact exec_again (fun _ => rfl) (settles_alert (fun s => (s.masked .alertTest data).getLsbD 0) fun _ => rfl) ht h
  case writeCfgCdcSync data => exact exec_again (fun _ => rfl) (settles_cdcSync (data &&& 1#32)) ht h
  case writeCtrlCfgRegwen | writeWakeStatus | writeResetStatus | writeEscalateResetStatus | writeFaultStatus |
      writeUnmapped =>
    exact exec_again (fun _ => rfl) (fun _ => ⟨_, rfl⟩) ht h
  case writeControl data | writeWakeupEn data | writeResetEn data =>
    exact exec_again (fun _ => rfl) (settles_gated data (by decide)) ht h
  case writeWakeupEnRegwen data | writeResetEnRegwen data =>
    exact exec_again (fun _ => rfl) (settles_of_idempotent fun s => storeRW0C_storeRW0C s data rfl) ht h
  case writeWakeInfoCaptureDis data =>
    exact exec_again (fun _ => rfl) (settles_of_idempotent fun s => storeRW_storeRW s data) ht h
  case writeWakeInfo data =>
    exact exec_again (fun _ => rfl) (settles_of_idempotent fun s => storeRW1C_storeRW1C s data rfl) ht h
  all_goals exact absurd hi nofun

end Sys2Proof.Machine

/-! # The line deliveries (spec 41_signal_inputs.md) -/

namespace Sys2Proof.Machine

/-! ## The ports without a check of their own -/

/-- The bitmap with one channel's bit set, told bit by bit. -/
theorem eq_or_shiftLeft_one {v b : BitVec 8} {i : Nat}
    (h : ∀ k, k < 8 → v.getLsbD k = (b.getLsbD k || decide (k = i))) : v = b ||| 1#8 <<< i := by
  refine BitVec.eq_of_getLsbD_eq fun k hk => ?_
  have hbit : (1#8 <<< i).getLsbD k = decide (k = i) := by
    rw [BitVec.getLsbD_shiftLeft, BitVec.getLsbD_one, Bool.eq_iff_iff]
    simp only [Bool.and_eq_true, Bool.not_eq_true', decide_eq_true_eq, decide_eq_false_iff_not]
    omega
  rw [h k hk, BitVec.getLsbD_or, hbit]

/-- Settles O26: a delivery in range latches the channel's bit at level 1 only. -/
theorem romLinesLatchTheirChannel : Obligations.RomLinesLatchTheirChannel := by
  unfold Obligations.RomLinesLatchTheirChannel
  refine fun s index v hs hi => ⟨fun hv => ?_, fun hv => ?_, deliver_in_range hs hi, deliver_in_range hs hi⟩
  · rw [eq_or_shiftLeft_one hv]
    exact deliver_in_range hs hi
  · rw [eq_or_shiftLeft_one hv]
    exact deliver_in_range hs hi

/-- Settles O27: a delivery in range is reported at level 1 only. -/
theorem wakeupLineIsDiagnosticOnly : Obligations.WakeupLineIsDiagnosticOnly :=
  fun _ _ hs hi => ⟨deliver_in_range hs hi, deliver_in_range hs hi⟩

/-- The one line of a port with one line is in range. -/
theorem zero_lt_one_line : (0#8).toNat < 1 := by decide

/-- Settles O30: the response's latch bit and the tick, at level 1 only. -/
theorem responseLinesAreLatched : Obligations.ResponseLinesAreLatched :=
  fun _ hs => ⟨deliver_in_range hs zero_lt_one_line, deliver_in_range hs zero_lt_one_line,
    deliver_in_range hs zero_lt_one_line, deliver_in_range hs zero_lt_one_line⟩

/-- Settles O31: the latch bit, the register and the tick, at level 1 only. -/
theorem escalationIsLatchedAndShown : Obligations.EscalationIsLatchedAndShown :=
  fun _ hs => ⟨deliver_in_range hs zero_lt_one_line, deliver_in_range hs zero_lt_one_line⟩

theorem exec_lineHoldFetch_of_ready {s : State} (hs : s.Ready) (level : Bool) : exec (.lineHoldFetch 0#8 level) s =
    .next (if s.cfg.fetchCtrl then (s.latchHoldFetch level).armTick else s.diag (.fetchCtrlDisabled level)) :=
  deliver_in_range hs zero_lt_one_line

/-- Settles O32: the two cases of fetch control. -/
theorem fetchHoldFollowsTheLevel : Obligations.FetchHoldFollowsTheLevel := by
  unfold Obligations.FetchHoldFollowsTheLevel
  refine fun s level hs => ⟨fun hc => ?_, fun hc => ?_⟩
  · rw [exec_lineHoldFetch_of_ready hs, hc, if_pos rfl]
    rfl
  · rw [exec_lineHoldFetch_of_ready hs, hc, if_neg nofun]
    rfl

/-- Settles O33: the range check comes before each port's own rule. -/
theorem outOfRangeIndexIsReported : Obligations.OutOfRangeIndexIsReported := by
  unfold Obligations.OutOfRangeIndexIsReported
  refine fun s index level hs => ⟨fun hi => ⟨deliver_out_of_range hs hi, deliver_out_of_range hs hi⟩,
    fun hi => deliver_out_of_range hs hi, fun hi => ?_⟩
  have hone : 1 ≤ index.toNat := by
    by_contra hlt
    exact hi (eq_zero_of_lt_one (by omega))
  exact ⟨deliver_out_of_range hs hone, deliver_out_of_range hs hone, deliver_out_of_range hs hone,
    deliver_out_of_range hs hone, deliver_out_of_range hs hone⟩

/-! ## Reset requests (R155, R156, R157) -/

theorem resetInFlight_of_ne {s : State} (h : s.regs.resetStatus ≠ 0#32) : s.resetInFlight = true := bne_iff_ne.mpr h

theorem resetInFlight_of_eq {s : State} (h : s.regs.resetStatus = 0#32) : s.resetInFlight = false := by
  show (s.regs.resetStatus != 0#32) = false
  rw [h, bne_self_eq_false]

/-- A request accepted while none is in flight sets one bit of RESET_STATUS. -/
theorem acceptReset_eq {s : State} (h : s.regs.resetStatus = 0#32) (k : Nat) (cause : ResetCause) :
    s.acceptReset k cause = { s with
      regs := { s.regs with resetStatus := 1#32 <<< k }, rst := ⟨.fast, cause⟩, tickPending := true } := by
  have hbit : s.reg .resetStatus ||| 1#32 <<< k = 1#32 <<< k := by
    show s.regs.resetStatus ||| 1#32 <<< k = _
    rw [h, BitVec.zero_or]
  rw [State.acceptReset, hbit]
  rfl

theorem exec_lineSwRstReq_of_ready {s : State} (hs : s.Ready) (level : Bool) : exec (.lineSwRstReq 0#8 level) s =
    .next (if !level then s else if s.resetInFlight then s.diag (.resetOngoing .swRstReq 0#8)
      else s.latchSwReset.acceptReset s.cfg.resetCount s.cfg.swResetCause) :=
  deliver_in_range hs zero_lt_one_line

/-- Settles O29: level 0, a request in flight, and an accepted one. -/
theorem softwareResetRequest : Obligations.SoftwareResetRequest := by
  unfold Obligations.SoftwareResetRequest
  refine fun s hs => ⟨?level0, fun hstatus => ?ongoing, fun hstatus => ?accepted⟩
  case level0 => exact exec_lineSwRstReq_of_ready hs false
  case ongoing =>
    rw [exec_lineSwRstReq_of_ready hs, resetInFlight_of_ne hstatus]
    rfl
  case accepted =>
    rw [exec_lineSwRstReq_of_ready hs, resetInFlight_of_eq hstatus, if_neg nofun, if_neg nofun,
      acceptReset_eq (s := s.latchSwReset) hstatus]
    rfl

/-- A hardware line in range, at level 1 (R156, R248): a request in flight, then RESET_EN. -/
theorem exec_lineRstReq_of_ready {s : State} (hs : s.Ready) {index : BitVec 8}
    (hi : index.toNat < s.cfg.resetCount) : ∃ cause, s.cfg.resetDispatch[index.toNat]? = some cause ∧
    exec (.lineRstReq index true) s = .next
      (if s.resetInFlight then s.diag (.resetOngoing .rstReq index)
      else if s.regs.resetEn.getLsbD index.toNat then s.latchHwReset.acceptReset index.toNat cause
      else s.diag (.resetLineDisabled index)) := by
  obtain ⟨hcount, hmask, hdispatch, -⟩ := wellFormed_facts hs.2
  have hline : s.cfg.resetMask.getLsbD index.toNat = true := by
    rw [hmask, getLsbD_mask 32 _ _ (by omega), decide_eq_true hi]
  refine ⟨s.cfg.resetDispatch[index.toNat], List.getElem?_eq_getElem (by omega), ?_⟩
  refine (running_of_ready hs).trans ?_
  rw [if_neg (Nat.not_le.mpr hi), if_neg nofun, hline, List.getElem?_eq_getElem (by omega), Bool.true_and]
  cases s.resetInFlight
  · show (if !s.regs.resetEn.getLsbD index.toNat then _ else _) = _
    cases s.regs.resetEn.getLsbD index.toNat <;> rfl
  · rfl

/-- Settles O28: the checks of R248 in their order, and the acceptance. -/
theorem hardwareResetRequest : Obligations.HardwareResetRequest := by
  unfold Obligations.HardwareResetRequest
  refine fun s index hs => ⟨fun level hi => ?unmapped, fun hi => ?level0, fun hi hstatus => ?ongoing,
    fun hi hstatus hen => ?disabled, fun hi hstatus hen => ?accepted⟩
  case unmapped =>
    refine (running_of_ready hs).trans ?_
    rw [if_pos hi]
    rfl
  case level0 =>
    refine (running_of_ready hs).trans ?_
    rw [if_neg (Nat.not_le.mpr hi)]
    rfl
  all_goals obtain ⟨cause, hcause, hexec⟩ := exec_lineRstReq_of_ready hs hi
  case ongoing =>
    rw [hexec, resetInFlight_of_ne hstatus]
    rfl
  case disabled =>
    rw [hexec, resetInFlight_of_eq hstatus, hen]
    rfl
  case accepted =>
    refine ⟨cause, hcause, ?_⟩
    rw [hexec, resetInFlight_of_eq hstatus, hen, if_neg nofun, if_pos rfl,
      acceptReset_eq (s := s.latchHwReset) hstatus]
    rfl

end Sys2Proof.Machine
